-- ==== Sys2Proof/Word.lean ====
section
/-!
DEFINITION. Bytes, index types, and tables of a fixed number of like things.
-/

namespace Sys2Proof

/-- One byte of a frame or record image. -/
abbrev Byte := BitVec 8

/-- Load index, 0 to 23 (R1). -/
abbrev LoadIx := Fin 24

/-- Station slot index, 0 to 7 (R138). -/
abbrev SlotIx := Fin 8

/-- Scene index, 0 to 31 (R122). -/
abbrev SceneIx := Fin 32

/-- Zone number, 0 to 7 (00, I.6). -/
abbrev Zone := Fin 8

/-- A zone set as R184 encodes it: bit z stands for zone z. -/
abbrev ZoneSet := BitVec 8

/-- A set of loads: bit n stands for load n (R184). -/
abbrev LoadSet := BitVec 24

/-- Exactly `n` cells: the load records, the station slots, the scenes. -/
structure Table (n : Nat) (α : Type) where
  cells : List α
  size_eq : cells.length = n
  deriving DecidableEq, Repr

namespace Table

variable {n : Nat} {α β : Type}

def get (t : Table n α) (i : Fin n) : α :=
  t.cells[i.val]'(by rw [t.size_eq]; exact i.isLt)

def ofFn (f : Fin n → α) : Table n α := ⟨List.ofFn f, List.length_ofFn⟩

/-- The same cell everywhere. -/
def fill (n : Nat) (a : α) : Table n α := ofFn fun _ => a

/-- Rewrite every cell, knowing its index. -/
def mapIx (f : Fin n → α → α) (t : Table n α) : Table n α := ofFn fun i => f i (t.get i)

/-- Rewrite one cell. -/
def modify (t : Table n α) (i : Fin n) (f : α → α) : Table n α :=
  ofFn fun j => if j = i then f (t.get j) else t.get j

/-- Replace one cell. -/
def set (t : Table n α) (i : Fin n) (a : α) : Table n α := t.modify i fun _ => a

end Table

end Sys2Proof
end

