-- ==== Sys2Proof/Config.lean ====
section
/-!
DEFINITION. The constants the spec fixes for every GJ-324. The part has no implementation-defined
value and no free value: where a command is carried out, the spec gives every value it writes.
Times are µs of the 1 µs timebase.
-/

namespace Sys2Proof.Config

/-- Accepted half-period band (Table 2-3). -/
abbrev minHalfPeriod : Nat := 7000
abbrev maxHalfPeriod : Nat := 11500
/-- Acquisition spacing tolerance (Table 2-3, R33). -/
abbrev spacingTolerance : Nat := 200
/-- Good spacings required to lock (Table 2-3, R34). -/
abbrev spacingsToLock : Nat := 3
/-- Acquisition timeout, 25 ms (Table 2-3, R32). -/
abbrev acquisitionTimeout : Nat := 25000
/-- Acceptance window either side of the predicted edge (Table 2-3). -/
abbrev acceptance : Nat := 250
/-- Smoothing divisor (Table 2-3, R35). -/
abbrev smoothing : Int := 8
/-- Synthetic boundaries in a row (Table 2-3, R39). -/
abbrev maxSynthetic : Nat := 3
/-- Gap between the end of a pulse and the due time of the next one of its train (R4, R75). -/
abbrev pulseGap : Nat := 200
/-- Longest valid train duration (R3). -/
abbrev maxTrain : Nat := 2400
/-- Gate-drive slots (R76). -/
abbrev slotCount : Nat := 6
/-- From the end of a train's last pulse to its post-firing check (R94). -/
abbrev checkDelay : Nat := 150
/-- Where skip_count and the noise count stop (Table 1-4, Table 2-1). -/
abbrev saturation : Nat := 255
/-- miss_limit selected by a carried 0 (Table 1-2, R3). -/
abbrev defaultMissLimit : Nat := 4
/-- Largest stored ramp count (R47, R52). -/
abbrev maxSteps : Nat := 65535
/-- One unit of fade, 10 ms (R52). -/
abbrev fadeUnit : Nat := 10000
/-- Entries of the shared scene pool (R124). -/
abbrev poolSize : Nat := 192
/-- Most entries of one scene (R122). -/
abbrev maxEntries : Nat := 24
/-- Failed polls that take an ONLINE slot OFFLINE (R148). -/
abbrev failsToOffline : Nat := 5
/-- Reply window, 4 ms (R145). -/
abbrev replyWindow : Nat := 4000
/-- Turnaround from the end of a poll to the next Poll frame (R145). -/
abbrev turnaround : Nat := 200
/-- Kind bytes, sync bytes (Table 11-1, R188). -/
abbrev kindWrite : Byte := 0xA1
abbrev kindRead : Byte := 0xA2
abbrev syncCommand : Byte := 0x3C
abbrev syncPoll : Byte := 0x96
abbrev syncReply : Byte := 0x69
/-- Largest payload, and largest frame kept in reception (Table 9-1, R164). -/
abbrev maxPayload : Nat := 128
abbrev maxFrame : Nat := 132
/-- IDENTIFY (R172). -/
abbrev partNumber : Nat := 324
abbrev formatRevision : Nat := 1

end Sys2Proof.Config
end

