-- ==== Sys2Proof/Syntax.lean ====
section
/-!
DEFINITION. The commands of the GJ-324: one constructor per row of spec/opcode_table.json.

`t` is the instant, on the 1 µs timebase, at which the part takes the command (log 2). A reading of
a sense input or the level of a zero-cross input comes with the command that reads it. `frame` of a
Reply row holds the bytes received in the reply window; `frame` of COMMAND_WRITE holds the bytes
after the kind byte. `csFell` is the instant at which CS fell for the transaction (R174, log 9). The 31
execution rows carry no operand but `t`: they execute the frame the Command Unit holds (log 8).
-/

namespace Sys2Proof

/-- The AC lines (00, I.6). -/
inductive Line
  | a
  | b
  | c
  deriving DecidableEq, Repr

inductive Instr
  -- resets
  | powerOnReset
  | pinReset (t : Nat)
  | pinResetEnd (t : Nat)
  -- the ALLOFF input
  | alloffAssertion (t : Nat)
  | alloffRelease (t : Nat)
  -- line tracking
  | zeroCrossEdge (t : Nat) (line : Line) (level : Bool)
  | acquisitionTimeout (t : Nat) (line : Line)
  | acceptanceWindowClose (t : Nat) (line : Line)
  -- firing
  | pulseDue (t : Nat)
  | pulseEnd (t : Nat) (load : LoadIx)
  | latestStartPassed (t : Nat) (load : LoadIx)
  | heldDriveStart (t : Nat) (load : LoadIx)
  | heldDriveEnd (t : Nat) (load : LoadIx) (level : Bool)
  -- conduction monitoring
  | postFiringCheck (t : Nat) (load : LoadIx) (level : Bool)
  | quietSample (t : Nat) (line : Line) (levels : LoadSet)
  -- station link
  | holdExpiry (t : Nat) (slot : SlotIx)
  | poll (t : Nat)
  | replyWindowClose (t : Nat)
  | idle (t : Nat) (frame : List Byte)
  | recall (t : Nat) (frame : List Byte)
  | raiseStart (t : Nat) (frame : List Byte)
  | lowerStart (t : Nat) (frame : List Byte)
  | holdStop (t : Nat) (frame : List Byte)
  | off (t : Nat) (frame : List Byte)
  -- control port transactions
  | commandWrite (t : Nat) (csFell : Nat) (frame : List Byte)
  | responseRead (t : Nat) (csFell : Nat) (clocked : Nat)
  | transactionIgnored (t : Nat) (csFell : Nat) (bytes : List Byte)
  -- executions of the frame held by the Command Unit
  | unknownCommand (t : Nat)
  | configureLines (t : Nat)
  | readLine (t : Nat)
  | defineLoad (t : Nat)
  | enableLoad (t : Nat)
  | disableLoad (t : Nat)
  | releaseLoad (t : Nat)
  | setLevel (t : Nat)
  | setLock (t : Nat)
  | clearFault (t : Nat)
  | readLoad (t : Nat)
  | stageLoad (t : Nat)
  | discardStaged (t : Nat)
  | commit (t : Nat)
  | readCommit (t : Nat)
  | writeScene (t : Nat)
  | deleteScene (t : Nat)
  | readScene (t : Nat)
  | recallScene (t : Nat)
  | readPool (t : Nat)
  | configureLink (t : Nat)
  | enrollStation (t : Nat)
  | removeStation (t : Nat)
  | readStation (t : Nat)
  | readSummary (t : Nat)
  | readEvents (t : Nat)
  | setEventMask (t : Nat)
  | allOff (t : Nat)
  | identify (t : Nat)
  | restart (t : Nat)
  | frameNotIntact (t : Nat)
  | replyNotValid (t : Nat) (frame : List Byte)
  deriving DecidableEq, Repr

end Sys2Proof
end

