-- ==== Sys2Proof/Machine/State.lean ====
section
/-!
DEFINITION. The state of the GJ-324, block by block, as plain data, and the state after power-on
reset. The names of fields are the spec's.
-/

namespace Sys2Proof.Machine

/-- One thing for each of the lines A, B, C. -/
structure PerLine (α : Type) where
  a : α
  b : α
  c : α
  deriving DecidableEq, Repr

namespace PerLine

variable {α : Type}

def get (p : PerLine α) : Line → α
  | .a => p.a
  | .b => p.b
  | .c => p.c

def set (p : PerLine α) (l : Line) (x : α) : PerLine α :=
  match l with
  | .a => { p with a := x }
  | .b => { p with b := x }
  | .c => { p with c := x }

def map (f : Line → α → α) (p : PerLine α) : PerLine α :=
  ⟨f .a p.a, f .b p.b, f .c p.c⟩

def fill (x : α) : PerLine α := ⟨x, x, x⟩

end PerLine

/-! ### Load Table (chapter 1) -/

inductive Mode
  | phaseLead
  | phaseTrail
  | burst
  | switch
  deriving DecidableEq, Repr

/-- A complete configuration (Table 1-2). -/
structure LoadConfig where
  line : Line
  mode : Mode
  minLevel : Nat
  maxLevel : Nat
  pulseWidth : Nat
  pulseCount : Nat
  senseEnable : Bool
  missLimit : Nat
  zones : ZoneSet
  deriving DecidableEq, Repr

/-- Who made a ramp (R6). -/
inductive Origin
  | command
  | scene (n : SceneIx)
  | hold (slot : SlotIx)
  | station (slot : SlotIx)
  deriving DecidableEq, Repr

structure Ramp where
  remaining : Nat
  origin : Origin
  deriving DecidableEq, Repr

/-- Record states (R8). -/
inductive RecordState
  | vacant
  | defined
  | active
  | faulted
  deriving DecidableEq, Repr

inductive FaultCause
  | noConduction
  | stuckOn
  deriving DecidableEq, Repr

/-- A load record (R1, Tables 1-2 and 1-4). -/
structure Record where
  state : RecordState
  config : Option LoadConfig
  currentLevel : Nat
  targetLevel : Nat
  ramp : Option Ramp
  stationLock : Bool
  burstAccumulator : Nat
  burstCycleOn : Bool
  missCount : Nat
  stuckCount : Nat
  skipCount : Nat
  faultCause : Option FaultCause
  staged : Option LoadConfig
  deriving DecidableEq, Repr

/-- The values of a VACANT record (R5). -/
def Record.vacant : Record where
  state := .vacant
  config := none
  currentLevel := 0
  targetLevel := 0
  ramp := none
  stationLock := false
  burstAccumulator := 0
  burstCycleOn := false
  missCount := 0
  stuckCount := 0
  skipCount := 0
  faultCause := none
  staged := none

/-! ### Line Trackers (chapter 2) -/

inductive Polarity
  | pos
  | neg
  deriving DecidableEq, Repr

/-- What a tracker holds in LOCKED and HOLDOVER alone (Table 2-1, R27). -/
structure Track where
  p : Nat
  lastBoundary : Nat
  polarity : Polarity
  frontGuard : Nat
  backGuard : Nat
  deriving DecidableEq, Repr

/-- The lock state, with the fields Table 2-1 gives each of them. -/
inductive Lock
  | off
  | absent
  | acquiring (lastEdge : Nat) (spacings : List Nat)
  | locked (track : Track)
  | holdover (track : Track) (count : Nat)
  deriving DecidableEq, Repr

/-- A Line Tracker (Table 2-1). -/
structure Tracker where
  lock : Lock
  noiseCount : Nat
  counter : BitVec 16
  deriving DecidableEq, Repr

/-- The line configuration (Table 2-2). -/
structure LineConfig where
  enable : PerLine Bool
  frontGuard : Nat
  backGuard : Nat
  nominalHalfPeriod : Nat
  deriving DecidableEq, Repr

/-- Defaults of Table 2-2 (R46). -/
def LineConfig.default : LineConfig where
  enable := .fill true
  frontGuard := 300
  backGuard := 400
  nominalHalfPeriod := 10000

/-! ### Firing Scheduler and Output Stage (chapter 4) -/

/-- A pulse entry of a firing list or of the waiting list (Table 4-1). -/
structure PulseEntry where
  load : LoadIx
  line : Line
  due : Nat
  number : Nat
  width : Nat
  count : Nat
  latestStart : Nat
  deriving DecidableEq, Repr

/-- A held-drive entry (Table 4-1). -/
structure HeldEntry where
  load : LoadIx
  start : Nat
  stop : Nat
  deriving DecidableEq, Repr

inductive FiringEntry
  | pulse (e : PulseEntry)
  | held (e : HeldEntry)
  deriving DecidableEq, Repr

/-- An occupied slot. R69 has the train keep the width it was listed with, so the slot carries it
(log 11). -/
structure SlotPulse where
  load : LoadIx
  line : Line
  number : Nat
  width : Nat
  count : Nat
  stop : Nat
  latestStart : Nat
  deriving DecidableEq, Repr

/-- A held drive in progress (Table 4-1). -/
structure HeldDrive where
  load : LoadIx
  stop : Nat
  deriving DecidableEq, Repr

/-- State of the Firing Scheduler and Output Stage (Table 4-1). `slots` lists the occupied slots: of
the six, those not listed are free (R76). -/
structure Firing where
  lists : PerLine (List FiringEntry)
  slots : List SlotPulse
  waiting : List PulseEntry
  held : List HeldDrive
  inhibit : Bool
  deriving DecidableEq, Repr

/-! ### Conduction Monitor (chapter 5) -/

structure PendingCheck where
  load : LoadIx
  due : Nat
  deriving DecidableEq, Repr

structure QuietSample where
  time : Nat
  loads : LoadSet
  deriving DecidableEq, Repr

/-- State of the Conduction Monitor (Table 5-1). -/
structure Monitor where
  checks : List PendingCheck
  quiet : PerLine (Option QuietSample)
  deriving DecidableEq, Repr

/-! ### Commit Unit (chapter 6) -/

inductive CommitState
  | idle
  | pending
  deriving DecidableEq, Repr

/-- A member of the commit set with the line it waits for (Table 6-1). -/
structure Member where
  load : LoadIx
  line : Line
  deriving DecidableEq, Repr

structure CommitUnit where
  state : CommitState
  members : List Member
  seq : BitVec 8
  deriving DecidableEq, Repr

/-! ### Scene Store (chapter 7) -/

structure SceneEntry where
  load : LoadIx
  level : Nat
  deriving DecidableEq, Repr

structure Scene where
  fade : Nat
  entries : List SceneEntry
  deriving DecidableEq, Repr

/-- State of the Scene Store (Table 7-1); an undefined scene is `none`. -/
structure SceneStore where
  scenes : Table 32 (Option Scene)
  free : Nat
  deriving DecidableEq, Repr

/-! ### Station Link Unit (chapter 8) -/

inductive SlotState
  | empty
  | online
  | offline
  deriving DecidableEq, Repr

inductive Direction
  | raise
  | lower
  deriving DecidableEq, Repr

structure Hold where
  zone : Zone
  direction : Direction
  expiry : Nat
  deriving DecidableEq, Repr

/-- Reasons of a refused request (Table 8-3). -/
inductive Reason
  | inhibited
  | notAllowed
  | noScene
  deriving DecidableEq, Repr

inductive LastResult
  | nothing
  | accepted
  | refused (reason : Reason)
  deriving DecidableEq, Repr

/-- What ENROLL_STATION writes: present unless the slot is EMPTY (R138). -/
structure Enrolment where
  address : Nat
  allowed : ZoneSet
  deriving DecidableEq, Repr

/-- A station slot (Table 8-3). -/
structure StationSlot where
  state : SlotState
  station : Option Enrolment
  lastSeq : Option Bool
  lastResult : LastResult
  failCount : Nat
  hold : Option Hold
  deriving DecidableEq, Repr

/-- The values of an EMPTY slot (R138). -/
def StationSlot.vacated : StationSlot where
  state := .empty
  station := none
  lastSeq := none
  lastResult := .nothing
  failCount := 0
  hold := none

/-- Why a poll in flight is marked for discard (R147): its slot was removed (R140), or polling was
stopped by a link disable or RESTART (R143, R162). -/
inductive Discard
  | removed
  | stopped
  deriving DecidableEq, Repr

/-- The poll in flight (Table 8-1). `answered`: a complete Reply that was not valid has been received,
and what follows it in the window is ignored (R145). -/
structure Poll where
  slot : SlotIx
  address : Nat
  start : Nat
  windowOpen : Nat
  windowEnd : Nat
  discard : Option Discard
  answered : Bool
  deriving DecidableEq, Repr

/-- The slot chosen for the next Poll frame, by the step of R146 that chose it. -/
inductive Choice
  | online (slot : SlotIx)
  | rediscovery (slot : SlotIx)
  deriving DecidableEq, Repr

/-- State of the Station Link Unit (Tables 8-1 and 8-2). `roundPosition` is `none` at *start*.
`rediscovered`: the round has had its rediscovery poll, and `chosen`: the slot to poll next, chosen as the last
poll ended or as polling began (R146). `nextPollAt`: no Poll frame starts before it (R143, R145, R162).
`ltx`: the last Poll frame sent (log 10). -/
structure StationLink where
  enable : Bool
  holdStep : Nat
  holdExpiry : Nat
  offFade : Nat
  slots : Table 8 StationSlot
  poll : Option Poll
  roundPosition : Option SlotIx
  rediscovered : Bool
  pointer : SlotIx
  chosen : Option Choice
  nextPollAt : Nat
  ltx : List Byte
  deriving DecidableEq, Repr

/-- The Station Link Unit after power-on and pin reset (R162). -/
def StationLink.reset : StationLink where
  enable := false
  holdStep := 4
  holdExpiry := 1000
  offFade := 100
  slots := .fill 8 .vacated
  poll := none
  roundPosition := none
  rediscovered := false
  pointer := 7
  chosen := none
  nextPollAt := 0
  ltx := []

/-! ### Command Unit (chapter 9) -/

/-- Response statuses (Table 9-2). NOT_READY is returned by a response read alone. -/
inductive Status
  | ok
  | badFrame
  | unknownCommand
  | badArgument
  | inhibited
  | state
  | busy
  | noSpace
  | notReady
  deriving DecidableEq, Repr

/-- One response (Table 9-1, R170). -/
structure Response where
  status : Status
  overrun : Bool
  lostResponse : Bool
  attention : Bool
  payload : List Byte
  deriving DecidableEq, Repr

/-- The unit state. EXECUTING holds the frame under execution and RESPONSE_READY the response: a
response is held exactly while the unit is RESPONSE_READY (R165). -/
inductive UnitState
  | idle
  | executing (frame : List Byte)
  | responseReady (response : Response)
  deriving DecidableEq, Repr

/-- State of the Command Unit (Table 9-1). `openSince`: transactions whose CS fell earlier are ignored
(R174). `sdo`: what the last transaction shifted out on SDO after its kind byte (log 10). -/
structure CommandUnit where
  unit : UnitState
  overrun : Bool
  lostResponse : Bool
  openSince : Nat
  sdo : List Byte
  deriving DecidableEq, Repr

/-! ### Attention Unit (chapter 10) -/

structure SafetyDetail where
  restarted : Bool
  allOffAsserted : Bool
  allOffReleased : Bool
  allOffCommand : Bool
  deriving DecidableEq, Repr

structure LineDetail where
  lost : Bool
  locked : Bool
  holdoverEntered : Bool
  deriving DecidableEq, Repr

structure CommitDetail where
  seq : BitVec 8
  moreThanOne : Bool
  deriving DecidableEq, Repr

structure StationDetail where
  online : Bool
  offline : Bool
  refused : Bool
  holdExpired : Bool
  deriving DecidableEq, Repr

def SafetyDetail.empty : SafetyDetail := ⟨false, false, false, false⟩
def LineDetail.empty : LineDetail := ⟨false, false, false⟩
def StationDetail.empty : StationDetail := ⟨false, false, false, false⟩

/-- The event classes, in order of priority (Table 10-2). -/
inductive EventClass
  | safety
  | line
  | fault
  | skip
  | commit
  | station
  deriving DecidableEq, Repr

/-- State of the Attention Unit (Table 10-1). Bit k - 1 of `mask` masks the class of priority k
(R184). -/
structure Attention where
  safety : SafetyDetail
  line : PerLine LineDetail
  fault : LoadSet
  skip : LoadSet
  commit : Option CommitDetail
  station : Table 8 StationDetail
  mask : BitVec 6
  deriving DecidableEq, Repr

/-- Every detail empty (R183), under a mask. -/
def Attention.cleared (mask : BitVec 6) : Attention where
  safety := .empty
  line := .fill .empty
  fault := 0
  skip := 0
  commit := none
  station := .fill 8 .empty
  mask := mask

/-! ### The part -/

/-- The GJ-324. `pending` is the queue of commands that wait, first in first out. -/
structure State where
  now : Nat
  rstLow : Bool
  allOff : Bool
  zc : PerLine Bool
  sense : LoadSet
  loads : Table 24 Record
  trackers : PerLine Tracker
  lineConfig : LineConfig
  firing : Firing
  monitor : Monitor
  commit : CommitUnit
  scenes : SceneStore
  link : StationLink
  port : CommandUnit
  attention : Attention
  pending : List Instr
  deriving DecidableEq, Repr

/-- No command of the GJ-324 stops it: every refusal of the spec is a response status (R167), a request
result (R150) or a record state (R101), and each of those is a next state. -/
inductive Fault
  deriving DecidableEq, Repr

/-- Why a step may be refused. -/
inductive Refusal
  /-- Raised by an arm of `exec` whose command has no meaning yet; safe. No arm raises it. -/
  | notModelled (mnemonic : String)
  deriving DecidableEq, Repr

/-- The Firing Scheduler and Output Stage after a reset (R90), with inhibit as R91 judges it. -/
def Firing.reset (inhibit : Bool) : Firing where
  lists := .fill []
  slots := []
  waiting := []
  held := []
  inhibit := inhibit

/-- The Conduction Monitor after a reset (R105). -/
def Monitor.reset : Monitor := ⟨[], .fill none⟩

/-- The Commit Unit after a reset (R119). -/
def CommitUnit.reset : CommitUnit := ⟨.idle, [], 0⟩

/-- The Scene Store after power-on and pin reset (R137). -/
def SceneStore.reset : SceneStore := ⟨.fill 32 none, Config.poolSize⟩

/-- A tracker after a reset, by its line enable (R46). -/
def Tracker.reset (enabled : Bool) : Tracker :=
  ⟨if enabled then .absent else .off, 0, 0⟩

/-- The Command Unit after power-on and pin reset, taking transactions from `since` on (R174). -/
def CommandUnit.reset (since : Nat) : CommandUnit := ⟨.idle, false, false, since, []⟩

/-- The part right after power-on reset (Tables 1-7, 2-6, 6-3, 7-2, 8-6, 10-4), with RST high and
ALLOFF, the zero-cross inputs and the sense inputs low (DESIGN CHOICE, log 6; unsafe) and the timebase at
0 (DESIGN CHOICE, log 5; unsafe). -/
def State.reset : State where
  now := 0
  rstLow := false
  allOff := false
  zc := .fill false
  sense := 0
  loads := .fill 24 .vacant
  trackers := .fill (.reset true)
  lineConfig := .default
  firing := .reset false
  monitor := .reset
  commit := .reset
  scenes := .reset
  link := .reset
  port := .reset 0
  attention := { Attention.cleared 0 with safety := { SafetyDetail.empty with restarted := true } }
  pending := []

end Sys2Proof.Machine
end

