-- ==== Sys2Proof/Machine/Operands.lean ====
section
/-!
DEFINITION. Operand forms and byte images (chapter 11): CRC-8, Control Port frames and their payload
fields, Reply and Poll frames, response images.
-/

namespace Sys2Proof.Machine

/-! ### Conventions of the byte images (R184) -/

/-- One shift of the CRC-8 with polynomial x⁸ + x² + x + 1. -/
def crcShift (v : Byte) : Byte := if v.msb then (v <<< 1) ^^^ 0x07#8 else v <<< 1

def crcByte (v b : Byte) : Byte := Nat.iterate crcShift 8 (v ^^^ b)

/-- CRC-8 of a byte list: initial value 0, most significant bit first, no inversion. -/
def crc8 (bytes : List Byte) : Byte := bytes.foldl crcByte 0

def byte (n : Nat) : Byte := BitVec.ofNat 8 n

/-- A quantity of two bytes, most significant byte first. -/
def word (n : Nat) : List Byte := [byte (n / 256), byte n]

def flagByte (f : Bool) : Byte := if f then 1 else 0

/-- Bit flags of one byte, bit 0 first. -/
def flagBits (fs : List Bool) : Byte :=
  byte (fs.foldr (fun f n => f.toNat + 2 * n) 0)

/-- A set of loads is three bytes: bit n mod 8 of byte n / 8 stands for load n. -/
def loadSetBytes (s : LoadSet) : List Byte := [s.extractLsb' 0 8, s.extractLsb' 8 8, s.extractLsb' 16 8]

def byteAt (p : List Byte) (i : Nat) : Nat := (p.getD i 0).toNat

def wordAt (p : List Byte) (i : Nat) : Nat := 256 * byteAt p i + byteAt p (i + 1)

/-- A boolean is 0 or 1; another value fails the argument check. -/
def boolAt (p : List Byte) (i : Nat) : Option Bool :=
  match byteAt p i with
  | 0 => some false
  | 1 => some true
  | _ => none

/-- An index below `n`. -/
def indexAt (n : Nat) (p : List Byte) (i : Nat) : Option (Fin n) :=
  if h : byteAt p i < n then some ⟨byteAt p i, h⟩ else none

def lineCode : Line → Nat
  | .a => 0
  | .b => 1
  | .c => 2

def lineOfCode : Nat → Option Line
  | 0 => some .a
  | 1 => some .b
  | 2 => some .c
  | _ => none

def modeCode : Mode → Nat
  | .phaseLead => 0
  | .phaseTrail => 1
  | .burst => 2
  | .switch => 3

def modeOfCode : Nat → Option Mode
  | 0 => some .phaseLead
  | 1 => some .phaseTrail
  | 2 => some .burst
  | 3 => some .switch
  | _ => none

/-- An event class is numbered by its priority. -/
def classOfCode : Nat → Option EventClass
  | 1 => some .safety
  | 2 => some .line
  | 3 => some .fault
  | 4 => some .skip
  | 5 => some .commit
  | 6 => some .station
  | _ => none

/-! ### Configuration sets (R3, R4, R186) -/

/-- Train duration of R4. -/
def LoadConfig.trainDuration (c : LoadConfig) : Nat :=
  c.pulseCount * c.pulseWidth + (c.pulseCount - 1) * Config.pulseGap

/-- A configuration as held: in range, with its floor not above its ceiling and a train of at most
2400 µs (R3, Table 1-2). -/
def LoadConfig.valid (c : LoadConfig) : Bool :=
  1 ≤ c.minLevel && c.minLevel ≤ 1000 && 1 ≤ c.maxLevel && c.maxLevel ≤ 1000 &&
  20 ≤ c.pulseWidth && c.pulseWidth ≤ 1000 && 1 ≤ c.pulseCount && c.pulseCount ≤ 3 &&
  1 ≤ c.missLimit && c.missLimit ≤ 15 &&
  c.minLevel ≤ c.maxLevel && c.trainDuration ≤ Config.maxTrain

/-- The 12 bytes of a configuration set from offset `i`: none where R3 or an encoding of R184 fails.
A carried miss_limit of 0 is held as 4. -/
def configAt (p : List Byte) (i : Nat) : Option LoadConfig := do
  let line ← lineOfCode (byteAt p i)
  let mode ← modeOfCode (byteAt p (i + 1))
  let sense ← boolAt p (i + 9)
  let carried := byteAt p (i + 10)
  let c : LoadConfig :=
    { line := line
      mode := mode
      minLevel := wordAt p (i + 2)
      maxLevel := wordAt p (i + 4)
      pulseWidth := wordAt p (i + 6)
      pulseCount := byteAt p (i + 8)
      senseEnable := sense
      missLimit := if carried = 0 then Config.defaultMissLimit else carried
      zones := p.getD (i + 11) 0 }
  if c.valid then some c else none

def configBytes (c : LoadConfig) : List Byte :=
  [byte (lineCode c.line), byte (modeCode c.mode)] ++ word c.minLevel ++ word c.maxLevel ++
  word c.pulseWidth ++
  [byte c.pulseCount, flagByte c.senseEnable, byte c.missLimit, c.zones]

/-! ### Scene entries (R125, R186) -/

/-- `k` entries of three bytes from offset `i`, in the order carried: none where a load is above 23 or
a level above 1000. -/
def entriesAt (p : List Byte) : Nat → Nat → Option (List SceneEntry)
  | _, 0 => some []
  | i, k + 1 => do
    let load ← indexAt 24 p i
    if wordAt p (i + 1) ≤ 1000 then
      let rest ← entriesAt p (i + 3) k
      some (⟨load, wordAt p (i + 1)⟩ :: rest)
    else none

def insertEntry (e : SceneEntry) : List SceneEntry → List SceneEntry
  | [] => [e]
  | x :: xs => if e.load < x.load then e :: x :: xs else x :: insertEntry e xs

/-- Entries in ascending load index (R123). -/
def sortEntries (es : List SceneEntry) : List SceneEntry := es.foldr insertEntry []

/-- No load twice (R123). -/
def distinctLoads (es : List SceneEntry) : Bool := decide (es.map (·.load)).Nodup

def entryBytes (es : List SceneEntry) : List Byte :=
  es.flatMap fun e => byte e.load.val :: word e.level

/-! ### Control Port frames (R164, R185, R186) -/

/-- An intact frame: its command code and payload. -/
structure Frame where
  code : Byte
  payload : List Byte
  deriving DecidableEq, Repr

/-- The four conditions of R164. Bytes after the CRC byte are ignored. -/
def parseFrame : List Byte → Option Frame
  | sync :: code :: len :: rest =>
    if sync = Config.syncCommand ∧ len.toNat ≤ Config.maxPayload ∧ len.toNat < rest.length ∧
        crc8 (sync :: code :: len :: rest.take len.toNat) = rest.getD len.toNat 0 then
      some ⟨code, rest.take len.toNat⟩
    else none
  | _ => none

/-- The payload length a code requires: fixed, or WRITE_SCENE's 4 + 3 × k. -/
inductive LengthRule
  | exactly (n : Nat)
  | scene
  deriving DecidableEq, Repr

/-- The 29 commands: code and payload length (Table 11-3). -/
def commandTable : List (Byte × LengthRule) :=
  [ (0x10#8, .exactly 7), (0x11#8, .exactly 1),
    (0x20#8, .exactly 13), (0x21#8, .exactly 1), (0x22#8, .exactly 1), (0x23#8, .exactly 1),
    (0x24#8, .exactly 5), (0x25#8, .exactly 2), (0x26#8, .exactly 1), (0x27#8, .exactly 1),
    (0x30#8, .exactly 13), (0x31#8, .exactly 1), (0x32#8, .exactly 0), (0x33#8, .exactly 0),
    (0x40#8, .scene), (0x41#8, .exactly 1), (0x42#8, .exactly 1), (0x43#8, .exactly 4),
    (0x44#8, .exactly 0),
    (0x50#8, .exactly 6), (0x51#8, .exactly 2), (0x52#8, .exactly 1), (0x53#8, .exactly 1),
    (0x60#8, .exactly 0), (0x61#8, .exactly 1), (0x62#8, .exactly 1),
    (0x70#8, .exactly 0), (0x7E#8, .exactly 0), (0x7F#8, .exactly 0) ]

/-- The length check of R167 and R186. -/
def LengthRule.holds (r : LengthRule) (p : List Byte) : Bool :=
  match r with
  | .exactly n => p.length == n
  | .scene => 4 ≤ p.length && p.length == 4 + 3 * byteAt p 3

def lengthRule (code : Byte) : Option LengthRule := commandTable.lookup code

/-- Status codes (Table 11-2). -/
def Status.code : Status → Byte
  | .ok => 0x00
  | .badFrame => 0x01
  | .unknownCommand => 0x02
  | .badArgument => 0x03
  | .inhibited => 0x04
  | .state => 0x05
  | .busy => 0x06
  | .noSpace => 0x07
  | .notReady => 0x08

/-- A response as shifted out: status, flags, payload length, payload, CRC-8 (Table 11-1). -/
def Response.image (r : Response) : List Byte :=
  let body := [r.status.code, flagBits [r.overrun, r.lostResponse, r.attention], byte r.payload.length] ++ r.payload
  body ++ [crc8 body]

/-- What SDO carries over `n` bytes: the image, and high after it. -/
def shiftOut (image : List Byte) (n : Nat) : List Byte :=
  image.take n ++ List.replicate (n - image.length) 0xFF#8

/-! ### Response images (R187) -/

/-- The effective level of R9. -/
def Record.effective (r : Record) : Nat :=
  match r.config with
  | none => 0
  | some c =>
    if r.currentLevel = 0 then 0
    else if r.currentLevel < c.minLevel then c.minLevel
    else if c.maxLevel < r.currentLevel then c.maxLevel
    else r.currentLevel

def stateCode : RecordState → Byte
  | .vacant => 0
  | .defined => 1
  | .active => 2
  | .faulted => 3

def originBytes : Origin → List Byte
  | .command => [1, 0]
  | .scene n => [2, byte n.val]
  | .hold s => [3, byte s.val]
  | .station s => [4, byte s.val]

def rampBytes : Option Ramp → List Byte
  | none => [0, 0, 0, 0, 0]
  | some x => [1] ++ word x.remaining ++ originBytes x.origin

def causeCode : Option FaultCause → Byte
  | none => 0
  | some .noConduction => 1
  | some .stuckOn => 2

/-- All 12 bytes are 0 for a VACANT record. -/
def heldConfigBytes : Option LoadConfig → List Byte
  | none => List.replicate 12 0
  | some c => configBytes c

/-- READ_LOAD image (Table 11-4). -/
def recordImage (r : Record) : List Byte :=
  [stateCode r.state] ++ heldConfigBytes r.config ++
  word r.currentLevel ++ word r.targetLevel ++ word r.effective ++ rampBytes r.ramp ++
  [flagByte r.stationLock] ++ word r.burstAccumulator ++ [flagByte r.burstCycleOn] ++
  [byte r.missCount, byte r.stuckCount, byte r.skipCount, causeCode r.faultCause,
   flagByte r.staged.isSome]

def lockCode : Lock → Byte
  | .off => 0
  | .absent => 1
  | .acquiring _ _ => 2
  | .locked _ => 3
  | .holdover _ _ => 4

/-- What a LOCKED or HOLDOVER tracker holds; absent in the other states (R27). -/
def Lock.track : Lock → Option Track
  | .locked x => some x
  | .holdover x _ => some x
  | .off => none
  | .absent => none
  | .acquiring _ _ => none

def Polarity.ofLevel (high : Bool) : Polarity := if high then .pos else .neg

/-- READ_LINE image (Table 11-5, R44); `level` is the present level of the zero-cross input. -/
def trackerImage (t : Tracker) (level : Bool) : List Byte :=
  let polarity := match t.lock.track with
    | some x => x.polarity
    | none => .ofLevel level
  [lockCode t.lock, flagByte t.lock.track.isSome] ++
  word ((t.lock.track.map (·.p)).getD 0) ++
  [if polarity = .pos then 1 else 0, byte t.noiseCount] ++ word t.counter.toNat

def resultCode : LastResult → Byte
  | .nothing => 0
  | .accepted => 1
  | .refused _ => 2

def Reason.code : Reason → Byte
  | .inhibited => 1
  | .notAllowed => 2
  | .noScene => 3

def reasonCode : LastResult → Byte
  | .nothing => 0
  | .accepted => 0
  | .refused r => r.code

def slotStateCode : SlotState → Byte
  | .empty => 0
  | .online => 1
  | .offline => 2

def lastSeqCode : Option Bool → Byte
  | none => 0xFF
  | some q => flagByte q

def directionCode : Direction → Byte
  | .raise => 0
  | .lower => 1

def enrolmentBytes : Option Enrolment → List Byte
  | none => [0, 0]
  | some e => [byte e.address, e.allowed]

/-- Whether a hold is present, its zone, its direction and the whole milliseconds left to its expiry. -/
def holdBytes (now : Nat) : Option Hold → List Byte
  | none => [0, 0, 0, 0, 0]
  | some h => [1, byte h.zone.val, directionCode h.direction] ++ word ((h.expiry - now) / 1000)

/-- READ_STATION image (Table 11-6, R141), read at the instant `now`. -/
def stationImage (s : StationSlot) (now : Nat) : List Byte :=
  [slotStateCode s.state] ++ enrolmentBytes s.station ++
  [lastSeqCode s.lastSeq, resultCode s.lastResult, reasonCode s.lastResult, byte s.failCount] ++
  holdBytes now s.hold

/-- READ_EVENTS detail bytes (Table 11-7). -/
def detailBytes (a : Attention) : EventClass → List Byte
  | .safety => [flagBits [a.safety.restarted, a.safety.allOffAsserted, a.safety.allOffReleased, a.safety.allOffCommand]]
  | .line => [a.line.a, a.line.b, a.line.c].map fun d => flagBits [d.lost, d.locked, d.holdoverEntered]
  | .fault => loadSetBytes a.fault
  | .skip => loadSetBytes a.skip
  | .commit =>
    match a.commit with
    | none => [0, 0, 0]
    | some d => [1, d.seq, flagByte d.moreThanOne]
  | .station => a.station.cells.map fun d => flagBits [d.online, d.offline, d.refused, d.holdExpired]

def classCode : EventClass → Byte
  | .safety => 1
  | .line => 2
  | .fault => 3
  | .skip => 4
  | .commit => 5
  | .station => 6

/-! ### Station Link frames (R188) -/

/-- Poll frame on the bus: four bytes of about 260 µs, 1040 µs (R188). DEDUCED: log 13; unsafe. -/
abbrev pollFrameTime : Nat := 1040

/-- The Poll frame to a station: sync, address, acknowledgement byte, CRC-8 (R151, R188). -/
def pollFrame (address : Nat) (s : StationSlot) : List Byte :=
  let ack := byte ((resultCode s.lastResult).toNat + 4 * (reasonCode s.lastResult).toNat +
    (match s.lastSeq with
     | none => 0
     | some q => 32 + 16 * q.toNat))
  let body := [Config.syncPoll, byte address, ack]
  body ++ [crc8 body]

/-- The requests of Table 8-4; every kind but IDLE is judged with its sequence bit (R149). -/
inductive Request
  | idle
  | recall (scene : SceneIx) (seq : Bool)
  | raiseStart (zone : Zone) (seq : Bool)
  | lowerStart (zone : Zone) (seq : Bool)
  | holdStop (zone : Zone) (seq : Bool)
  | off (zone : Zone) (seq : Bool)
  deriving DecidableEq, Repr

/-- The length a Reply must have, learnt from the kind in its request byte: four bytes for IDLE, five
for the other kinds (R188); kinds 6 and 7 count as other kinds (DEDUCED, log 16; unsafe). -/
def replyLength (frame : List Byte) : Nat := if byteAt frame 2 % 8 = 0 then 4 else 5

/-- The required length has arrived. -/
def replyComplete (frame : List Byte) : Bool := 3 ≤ frame.length && replyLength frame ≤ frame.length

/-- The request of a complete Reply whose sync, reserved bits, address and CRC-8 have passed. -/
def requestOf (kind arg : Nat) (seq : Bool) : Option Request :=
  let zone : Option Zone := if h : arg < 8 then some ⟨arg, h⟩ else none
  match kind with
  | 0 => some .idle
  | 1 => if h : arg < 32 then some (.recall ⟨arg, h⟩ seq) else none
  | 2 => zone.map (.raiseStart · seq)
  | 3 => zone.map (.lowerStart · seq)
  | 4 => zone.map (.holdStop · seq)
  | 5 => zone.map (.off · seq)
  | _ => none

/-- The request of a valid Reply from the polled address (R144, R188); none where it is not valid. -/
def parseReply (address : Nat) (frame : List Byte) : Option Request :=
  let n := replyLength frame
  let request := byteAt frame 2
  if replyComplete frame = true ∧ frame.getD 0 0 = Config.syncReply ∧ byteAt frame 1 = address ∧
      request / 8 % 16 = 0 ∧ crc8 (frame.take (n - 1)) = frame.getD (n - 1) 0 then
    requestOf (request % 8) (byteAt frame 3) (decide (128 ≤ request))
  else none

end Sys2Proof.Machine
end

