-- ==== Sys2Proof/WellFormed.lean ====
section
/-!
DEFINITION. Which commands name an event that can occur: the checks relate the operands of one command
to each other and to its row. `exec` is total on every command, well formed or not.
-/

namespace Sys2Proof

/-- The kind of a request, without its argument and sequence bit. -/
inductive RequestKind
  | idle
  | recall
  | raiseStart
  | lowerStart
  | holdStop
  | off
  deriving DecidableEq, Repr

def requestKind : Machine.Request → RequestKind
  | .idle => .idle
  | .recall _ _ => .recall
  | .raiseStart _ _ => .raiseStart
  | .lowerStart _ _ => .lowerStart
  | .holdStop _ _ => .holdStop
  | .off _ _ => .off

/-- A Reply that is valid at the address it carries, a station address (1 to 31), with a request of
`kind` and no byte past its length (R144, R188). -/
def replyOfKind (kind : RequestKind) (frame : List Byte) : Bool :=
  decide (1 ≤ Machine.byteAt frame 1 ∧ Machine.byteAt frame 1 ≤ 31) &&
  frame.length == Machine.replyLength frame &&
  decide ((Machine.parseReply (Machine.byteAt frame 1) frame).map requestKind = some kind)

/-- The transaction names neither kind, or ends before its kind byte is whole (R163), or is a command
write without a byte after its kind byte (R164). -/
def ignoredTransaction : List Byte → Bool
  | [] => true
  | kind :: rest =>
    if kind = Config.kindWrite then rest.isEmpty else decide (kind ≠ Config.kindRead)

namespace Instr

def wellFormed : Instr → Bool
  | .powerOnReset => true
  | .pinReset _ => true
  | .pinResetEnd _ => true
  | .alloffAssertion _ => true
  | .alloffRelease _ => true
  | .zeroCrossEdge _ _ _ => true
  | .acquisitionTimeout _ _ => true
  | .acceptanceWindowClose _ _ => true
  | .pulseDue _ => true
  | .pulseEnd _ _ => true
  | .latestStartPassed _ _ => true
  | .heldDriveStart _ _ => true
  | .heldDriveEnd _ _ _ => true
  | .postFiringCheck _ _ _ => true
  | .quietSample _ _ _ => true
  | .holdExpiry _ _ => true
  | .poll _ => true
  | .replyWindowClose _ => true
  | .idle _ frame => replyOfKind .idle frame
  | .recall _ frame => replyOfKind .recall frame
  | .raiseStart _ frame => replyOfKind .raiseStart frame
  | .lowerStart _ frame => replyOfKind .lowerStart frame
  | .holdStop _ frame => replyOfKind .holdStop frame
  | .off _ frame => replyOfKind .off frame
  | .commandWrite t csFell frame => decide (csFell ≤ t) && !frame.isEmpty
  | .responseRead t csFell _ => decide (csFell ≤ t)
  | .transactionIgnored t csFell bytes => decide (csFell ≤ t) && ignoredTransaction bytes
  | .unknownCommand _ => true
  | .configureLines _ => true
  | .readLine _ => true
  | .defineLoad _ => true
  | .enableLoad _ => true
  | .disableLoad _ => true
  | .releaseLoad _ => true
  | .setLevel _ => true
  | .setLock _ => true
  | .clearFault _ => true
  | .readLoad _ => true
  | .stageLoad _ => true
  | .discardStaged _ => true
  | .commit _ => true
  | .readCommit _ => true
  | .writeScene _ => true
  | .deleteScene _ => true
  | .readScene _ => true
  | .recallScene _ => true
  | .readPool _ => true
  | .configureLink _ => true
  | .enrollStation _ => true
  | .removeStation _ => true
  | .readStation _ => true
  | .readSummary _ => true
  | .readEvents _ => true
  | .setEventMask _ => true
  | .allOff _ => true
  | .identify _ => true
  | .restart _ => true
  | .frameNotIntact _ => true
  | .replyNotValid _ frame => Machine.replyComplete frame && frame.length == Machine.replyLength frame

end Instr

end Sys2Proof
end

