-- ==== Sys2Proof/Machine/Flags.lean ====
section
/-!
DEFINITION. Every flag computation: the event details, which classes are pending, the ATTN output and
the ATTENTION flag (chapter 10), and the sets of loads and zones the details and fields are made of.
-/

namespace Sys2Proof.Machine

/-! ### Sets of loads and zones -/

def loadsWhere (p : LoadIx → Bool) : LoadSet := BitVec.ofFnLE p

def hasLoad (s : LoadSet) (n : LoadIx) : Bool := s.getLsbD n.val

def hasZone (s : ZoneSet) (z : Zone) : Bool := s.getLsbD z.val

/-! ### Pending and masked classes (R176) -/

def EventClass.all : List EventClass := [.safety, .line, .fault, .skip, .commit, .station]

/-- The bit of a class in a class set (R184). -/
def EventClass.bit : EventClass → Nat
  | .safety => 0
  | .line => 1
  | .fault => 2
  | .skip => 3
  | .commit => 4
  | .station => 5

namespace Attention

/-- A class is pending while its detail is not empty (R176). -/
def isPending (a : Attention) : EventClass → Bool
  | .safety => a.safety != .empty
  | .line => a.line != .fill .empty
  | .fault => a.fault != 0
  | .skip => a.skip != 0
  | .commit => a.commit.isSome
  | .station => a.station != .fill 8 .empty

def isMasked (a : Attention) (c : EventClass) : Bool := a.mask.getLsbD c.bit

/-- The condition of R178: an unmasked class is pending. -/
def attn (a : Attention) : Bool := EventClass.all.any fun c => a.isPending c && !a.isMasked c

/-- The highest-priority class that is pending and not masked (R179). -/
def highest (a : Attention) : Option EventClass :=
  EventClass.all.find? fun c => a.isPending c && !a.isMasked c

/-- The pending classes as a class set, masked and unmasked alike (R179, R184). -/
def pendingSet (a : Attention) : Byte := flagBits (EventClass.all.map a.isPending)

/-! ### Reports (R177) -/

def reportSafety (a : Attention) (f : SafetyDetail → SafetyDetail) : Attention :=
  { a with safety := f a.safety }

def reportLine (a : Attention) (l : Line) (f : LineDetail → LineDetail) : Attention :=
  { a with line := a.line.set l (f (a.line.get l)) }

def reportFaults (a : Attention) (p : LoadIx → Bool) : Attention :=
  { a with fault := a.fault ||| loadsWhere p }

def reportSkips (a : Attention) (p : LoadIx → Bool) : Attention :=
  { a with skip := a.skip ||| loadsWhere p }

/-- A completion: the record is created, or takes the new commit_seq and more_than_one. -/
def reportCommit (a : Attention) (seq : BitVec 8) : Attention :=
  { a with commit := some ⟨seq, a.commit.isSome⟩ }

def reportStation (a : Attention) (s : SlotIx) (f : StationDetail → StationDetail) : Attention :=
  { a with station := a.station.modify s f }

/-- READ_EVENTS empties the detail of one class (R180). -/
def emptied (a : Attention) : EventClass → Attention
  | .safety => { a with safety := .empty }
  | .line => { a with line := .fill .empty }
  | .fault => { a with fault := 0 }
  | .skip => { a with skip := 0 }
  | .commit => { a with commit := none }
  | .station => { a with station := .fill 8 .empty }

/-- Every detail emptied, then restarted set, with all_off_asserted where ALLOFF is high (R183). -/
def afterReset (mask : BitVec 6) (allOff : Bool) : Attention :=
  { Attention.cleared mask with safety := ⟨true, allOff, false, false⟩ }

end Attention

/-- The ATTN output (R178). -/
def State.attn (s : State) : Bool := s.attention.attn

end Sys2Proof.Machine
end

