-- ==== Sys2Proof/Machine/Rounds.lean ====
section
/-!
DEFINITION. The polling rounds of the Station Link Unit (R146): which slot gets the next Poll frame.
-/

namespace Sys2Proof.Machine

def Choice.slot : Choice → SlotIx
  | .online i => i
  | .rediscovery i => i

/-- The state of a slot when it is chosen: step 1 of R146 chooses ONLINE slots, step 2 OFFLINE ones. -/
def Choice.expects : Choice → SlotState
  | .online _ => .online
  | .rediscovery _ => .offline

namespace StationLink

/-- The lowest-indexed ONLINE slot above the round position (R146, step 1). -/
def nextOnline (k : StationLink) : Option SlotIx :=
  (List.finRange 8).find? fun i =>
    decide ((k.slots.get i).state = .online) &&
    (match k.roundPosition with
     | none => true
     | some j => decide (j < i))

/-- The first OFFLINE slot from the slot after the rotation pointer upward, wrapping from 7 to 0 (R146,
step 2). -/
def nextOffline (k : StationLink) : Option SlotIx :=
  ((List.finRange 8).filter (fun i => decide (k.pointer < i)) ++
    (List.finRange 8).filter (fun i => decide (i ≤ k.pointer))).find?
      fun i => decide ((k.slots.get i).state = .offline)

/-- Steps 1 and 2 of R146. -/
def chooseInRound (k : StationLink) : Option Choice :=
  if k.rediscovered then none
  else
    match k.nextOnline with
    | some i => some (.online i)
    | none => k.nextOffline.map .rediscovery

/-- A new round begins (R146, step 3). -/
def newRound (k : StationLink) : StationLink := { k with roundPosition := none, rediscovered := false }

/-- The choice of R146 from the table as it stands, in the current round or else in the next one, made
when a poll ends or polling begins. None with the link off or with no slot in use: polling stops. -/
def chooseNext (k : StationLink) : StationLink :=
  if k.enable then
    match k.chooseInRound with
    | some c => { k with chosen := some c }
    | none => { k.newRound with chosen := k.newRound.chooseInRound }
  else { k with chosen := none }

/-- The chosen slot is polled and becomes the round position or the rotation pointer (R146). -/
def polled (k : StationLink) : Choice → StationLink
  | .online i => { k with roundPosition := some i }
  | .rediscovery i => { k with pointer := i, rediscovered := true }

/-- Choose again where the slot chosen is `i`, which has just been emptied (DESIGN CHOICE, log 14; safe). -/
def chooseWithout (k : StationLink) (i : SlotIx) : StationLink :=
  if k.chosen.map (·.slot) = some i then k.chooseNext else k

end StationLink

end Sys2Proof.Machine
end

