-- ==== Sys2Proof/Machine/Ops.lean ====
section
/-!
DEFINITION. The named operations the commands share: the timebase, the load cut and the slot grant,
level claims and ramps, hold stops, firing lists, commit applies, the half-cycle boundary, line loss,
load faults, the all-off actions and the resets.
-/

namespace Sys2Proof.Machine

/-! ### Timebase and records -/

/-- The command is taken at instant `t`; the timebase never runs backward (log 2). -/
def State.at (s : State) (t : Nat) : State := { s with now := max s.now t }

def State.load (s : State) (n : LoadIx) : Record := s.loads.get n

def State.modifyLoad (s : State) (n : LoadIx) (f : Record → Record) : State :=
  { s with loads := s.loads.modify n f }

def State.mapLoads (s : State) (f : LoadIx → Record → Record) : State :=
  { s with loads := s.loads.mapIx f }

def Record.isActive (r : Record) : Bool := decide (r.state = .active)

/-- The record is configured on line `l`; never so for a VACANT record (R1). -/
def Record.onLine (r : Record) (l : Line) : Bool := decide (r.config.map (·.line) = some l)

def Record.sensed (r : Record) : Bool := (r.config.map (·.senseEnable)).getD false

/-- Levels and ramp go with ACTIVE (R5, R6). -/
def Record.leaveActive (r : Record) (next : RecordState) : Record :=
  { r with state := next, currentLevel := 0, targetLevel := 0, ramp := none }

/-- The line is LOCKED or HOLDOVER. -/
def State.tracks (s : State) (l : Line) : Bool := (s.trackers.get l).lock.track.isSome

/-! ### Slots, waiting list, load cut (R15, R76 to R80) -/

def FiringEntry.load : FiringEntry → LoadIx
  | .pulse e => e.load
  | .held e => e.load

/-- Due or start time. -/
def FiringEntry.time : FiringEntry → Nat
  | .pulse e => e.due
  | .held e => e.start

/-- Order of the firing lists and of the waiting list: by time, then by ascending load index. -/
def precedes (x y : Nat × Nat) : Bool := x.1 < y.1 || (x.1 == y.1 && x.2 < y.2)

def insertBy {α : Type} (key : α → Nat × Nat) (x : α) : List α → List α
  | [] => [x]
  | y :: ys => if precedes (key x) (key y) then x :: y :: ys else y :: insertBy key x ys

def FiringEntry.key (e : FiringEntry) : Nat × Nat := (e.time, e.load.val)

def PulseEntry.key (e : PulseEntry) : Nat × Nat := (e.due, e.load.val)

/-- The pulse occupies a slot from now for its width (R76). -/
def PulseEntry.start (e : PulseEntry) (now : Nat) : SlotPulse where
  load := e.load
  line := e.line
  number := e.number
  width := e.width
  count := e.count
  stop := now + e.width
  latestStart := e.latestStart

/-- Hand free slots to waiting entries in list order, one slot each. An entry whose latest start has
passed is not granted (R79). -/
def grantSlots (now : Nat) : List SlotPulse → List PulseEntry → List SlotPulse × List PulseEntry
  | slots, [] => (slots, [])
  | slots, e :: es =>
    if slots.length < Config.slotCount ∧ now ≤ e.latestStart then
      grantSlots now (slots ++ [e.start now]) es
    else
      let r := grantSlots now slots es
      (r.1, e :: r.2)

namespace Firing

def grant (f : Firing) (now : Nat) : Firing :=
  let r := grantSlots now f.slots f.waiting
  { f with slots := r.1, waiting := r.2 }

/-- End all gate activity of the loads of `p` and take their entries off every list (R15). -/
def remove (f : Firing) (p : LoadIx → Bool) : Firing :=
  { f with
    lists := f.lists.map fun _ es => es.filter fun e => !p e.load
    slots := f.slots.filter fun x => !p x.load
    waiting := f.waiting.filter fun e => !p e.load
    held := f.held.filter fun h => !p h.load }

/-- A due pulse starts in a free slot, or waits (R77). -/
def arbitrate (f : Firing) (now : Nat) (e : PulseEntry) : Firing :=
  if f.slots.length < Config.slotCount then { f with slots := f.slots ++ [e.start now] }
  else { f with waiting := insertBy PulseEntry.key e f.waiting }

/-- Join an entry to the firing list of a line (R68, R75). -/
def list (f : Firing) (l : Line) (e : FiringEntry) : Firing :=
  { f with lists := f.lists.set l (insertBy FiringEntry.key e (f.lists.get l)) }

end Firing

def Monitor.removeChecks (m : Monitor) (p : LoadIx → Bool) : Monitor :=
  { m with checks := m.checks.filter fun c => !p c.load }

/-- The load cut of R15 on every load of `p`, made whole before any freed slot is granted (R42, R79). -/
def State.cutLoads (s : State) (p : LoadIx → Bool) : State :=
  { s with
    firing := (s.firing.remove p).grant s.now
    monitor := s.monitor.removeChecks p }

/-- Gate output G n (R82). -/
def State.gate (s : State) (n : LoadIx) : Bool :=
  (s.firing.slots.any fun x => x.load == n) || (s.firing.held.any fun h => h.load == n)

/-- Abandon the trains of the loads of `p` with one skip each: skip_count rises, holding at 255, and
the load joins the SKIP detail (R69, R75, R80). -/
def State.skipLoads (s : State) (p : LoadIx → Bool) : State :=
  { s with
    loads := s.loads.mapIx fun n r =>
      if p n then { r with skipCount := min Config.saturation (r.skipCount + 1) } else r
    attention := s.attention.reportSkips p }

/-! ### Level claims and ramps (chapter 3) -/

/-- `a / b` rounded up. -/
def ceilDiv (a b : Nat) : Nat := (a + b - 1) / b

/-- Step count of a fade at half-period `p` (R52). -/
def stepCount (fade p : Nat) : Nat :=
  max 1 (min Config.maxSteps (ceilDiv (fade * Config.fadeUnit) p))

/-- Half-period for a fade on line `l` (R53). -/
def State.halfPeriod (s : State) (l : Line) : Nat :=
  match (s.trackers.get l).lock.track with
  | some x => x.p
  | none => s.lineConfig.nominalHalfPeriod

/-- Half-period of R53 for a record, by the line of its configuration. -/
def State.halfPeriodOf (s : State) (r : Record) : Nat :=
  match r.config with
  | some c => s.halfPeriod c.line
  | none => s.lineConfig.nominalHalfPeriod

/-- A level claim with a fade on an ACTIVE record (R49). -/
def Record.claim (r : Record) (target fade p : Nat) (origin : Origin) : Record :=
  if fade = 0 then { r with targetLevel := target, currentLevel := target, ramp := none }
  else if target = r.currentLevel then { r with targetLevel := target, ramp := none }
  else { r with targetLevel := target, ramp := some ⟨stepCount fade p, origin⟩ }

/-- The limit a hold moves a load toward (R62). -/
def LoadConfig.limit (c : LoadConfig) : Direction → Nat
  | .raise => c.maxLevel
  | .lower => c.minLevel

/-- A hold claim (R62); a LOWER hold passes by a load at level 0 (R63). -/
def Record.claimHold (r : Record) (d : Direction) (step : Nat) (slot : SlotIx) : Record :=
  match r.config with
  | none => r
  | some c =>
    if d = .lower ∧ r.currentLevel = 0 then r
    else
      let target := c.limit d
      let distance := ((target : Int) - r.currentLevel).natAbs
      if distance = 0 then { r with targetLevel := r.currentLevel, ramp := none }
      else { r with targetLevel := target, ramp := some ⟨ceilDiv distance step, .hold slot⟩ }

/-- The load stays at the level it has reached (R64). -/
def Record.settle (r : Record) : Record := { r with targetLevel := r.currentLevel, ramp := none }

/-- One step of a ramp (R55). -/
def Record.rampStep (r : Record) : Record :=
  match r.ramp with
  | none => r
  | some x =>
    { r with
      currentLevel :=
        ((r.currentLevel : Int) + ((r.targetLevel : Int) - r.currentLevel).tdiv x.remaining).toNat
      ramp := if x.remaining - 1 = 0 then none else some { x with remaining := x.remaining - 1 } }

/-- Stop the holds of the slots of `p`: their HOLD ramps are settled and the hold records removed
(R64, R157). -/
def State.stopHolds (s : State) (p : SlotIx → Bool) : State :=
  { s with
    loads := s.loads.mapIx fun _ r =>
      match r.ramp with
      | some ⟨_, .hold slot⟩ => if p slot then r.settle else r
      | _ => r
    link := { s.link with
      slots := s.link.slots.mapIx fun i x => if p i then { x with hold := none } else x } }

/-- Eligible for a request of a station on a zone (R152). -/
def Record.eligible (r : Record) (z : Zone) : Bool :=
  match r.config with
  | none => false
  | some c => r.isActive && hasZone c.zones z && !r.stationLock

/-- Who recalls a scene: the Control Port, or a station with its allowed zones (R131, R134). -/
inductive Caller
  | controlPort
  | station (allowed : ZoneSet)
  deriving DecidableEq, Repr

/-- Whether an entry naming this record is applied (R131, R134). -/
def Record.recallable (r : Record) (caller : Caller) : Bool :=
  match caller with
  | .controlPort => r.isActive
  | .station allowed =>
    match r.config with
    | none => false
    | some c => r.isActive && (c.zones &&& allowed) != 0 && !r.stationLock

/-- The recall of R131: a claim with origin SCENE(n) on every applied entry, all in one action. -/
def State.recallScene (s : State) (n : SceneIx) (entries : List SceneEntry) (fade : Nat)
    (caller : Caller) : State :=
  s.mapLoads fun i r =>
    match entries.find? fun e => e.load == i with
    | none => r
    | some e => if r.recallable caller then r.claim e.level fade (s.halfPeriodOf r) (.scene n) else r

/-- How many entries a recall applies (R130). -/
def State.appliedCount (s : State) (entries : List SceneEntry) (caller : Caller) : Nat :=
  entries.countP fun e => (s.load e.load).recallable caller

/-! ### Commit applies (R113 to R116) -/

/-- What R113 changes in the record: configuration and copy, counts, burst fields. -/
def Record.applyStaged (r : Record) : Record :=
  match r.staged with
  | none => r
  | some c =>
    let same := decide (r.config.map (·.mode) = some c.mode) && r.onLine c.line
    { r with
      config := some c
      staged := none
      missCount := 0
      stuckCount := 0
      burstAccumulator := if same then r.burstAccumulator else 0
      burstCycleOn := same && r.burstCycleOn }

/-- Applying the staged copy would change the line. -/
def Record.changesLine (r : Record) : Bool :=
  match r.staged with
  | none => false
  | some c => !r.onLine c.line

/-- The commit completes when its set becomes empty (R116). -/
def State.completeCommit (s : State) : State :=
  if s.commit.state = .pending ∧ s.commit.members = [] then
    { s with
      commit := { s.commit with state := .idle }
      attention := s.attention.reportCommit s.commit.seq }
  else s

/-- The loads of `p` leave every quiet-sample set not yet taken: those released, faulted or with sensing
turned off since the boundary (R18, R99, R103, R104), and those taken off their line (DEDUCED from R99 and
R114, log 29; safe). -/
def Monitor.leaveSamples (m : Monitor) (p : LoadIx → Bool) : Monitor :=
  { m with quiet := m.quiet.map fun _ q => q.map fun x =>
      { x with loads := x.loads &&& ~~~ loadsWhere p } }

/-- Apply the members of `p` in one action: configurations, the cut of those whose line changes, their
departure from the set, and the completion (R111, R113, R116). -/
def State.applyMembers (s : State) (p : LoadIx → Bool) : State :=
  let moved := fun n => p n && (s.load n).changesLine
  let s1 := s.mapLoads fun n r => if p n then r.applyStaged else r
  let s2 := { s1 with
    commit := { s1.commit with members := s1.commit.members.filter fun m => !p m.load }
    monitor := s1.monitor.leaveSamples fun n => moved n || p n && !(s1.load n).sensed }
  (s2.cutLoads moved).completeCommit

def State.isMember (s : State) (n : LoadIx) : Bool := s.commit.members.any fun m => m.load == n

/-- The members waiting on line `l`. -/
def State.waitsOn (s : State) (l : Line) (n : LoadIx) : Bool :=
  s.commit.members.any fun m => m.load == n && m.line == l

/-! ### The half-cycle boundary (R40, R57, R68 to R74, R98, R111) -/

/-- Contents of a boundary (Table 2-5). -/
structure Boundary where
  line : Line
  time : Nat
  polarity : Polarity
  declared : Bool
  p : Nat
  frontGuard : Nat
  backGuard : Nat
  counter : BitVec 16
  deriving DecidableEq, Repr

def State.stepRamps (s : State) (l : Line) : State :=
  s.mapLoads fun _ r => if r.isActive && r.onLine l then r.rampStep else r

/-- The decision of R73. -/
def Record.decideBurst (r : Record) : Record :=
  let sum := r.burstAccumulator + r.effective
  if 1000 ≤ sum then { r with burstAccumulator := sum - 1000, burstCycleOn := true }
  else { r with burstAccumulator := sum, burstCycleOn := false }

def Record.inMode (r : Record) (m : Mode) : Bool := decide (r.config.map (·.mode) = some m)

/-- The BURST decisions of a POS boundary; at a NEG boundary none is taken (R73). -/
def State.decideBursts (s : State) (b : Boundary) : State :=
  s.mapLoads fun _ r =>
    if b.polarity = .pos ∧ r.isActive && r.onLine b.line && r.inMode .burst then r.decideBurst else r

/-- Drop the previous firing list of the line: each pulse entry still in it abandons its train with one
skip (R69). -/
def State.dropList (s : State) (l : Line) : State :=
  let due := s.firing.lists.get l
  let s1 := s.skipLoads fun n => due.any fun e =>
    match e with
    | .pulse x => x.load == n
    | .held _ => false
  { s1 with firing := { s1.firing with lists := s1.firing.lists.set l [] } }

/-- Usable window W of a configuration in this half-cycle (Table 4-2). -/
def Boundary.window (b : Boundary) (c : LoadConfig) : Nat :=
  b.p - b.frontGuard - b.backGuard - c.trainDuration

/-- Held window H (Table 4-2). -/
def Boundary.heldWindow (b : Boundary) : Nat := b.p - b.frontGuard - b.backGuard

/-- Latest start of every pulse of a train (Table 4-2, R70). -/
def Boundary.latestStart (b : Boundary) (c : LoadConfig) : Nat :=
  b.time + b.p - b.backGuard - c.pulseWidth

/-- Due time of a first pulse: the PHASE_LEAD law of R71, and b + front_guard in BURST and SWITCH
(R73, R74). -/
def Boundary.firstDue (b : Boundary) (c : LoadConfig) (e : Nat) : Nat :=
  match c.mode with
  | .phaseLead => b.time + b.frontGuard + (1000 - e) * b.window c / 1000
  | .phaseTrail => b.time + b.frontGuard
  | .burst => b.time + b.frontGuard
  | .switch => b.time + b.frontGuard

/-- The entry of a load in the list of the half-cycle that `b` opens, if it is to fire (R68). -/
def Boundary.entry (b : Boundary) (n : LoadIx) (r : Record) : Option FiringEntry :=
  match r.config with
  | none => none
  | some c =>
    let e := r.effective
    if r.isActive && decide (c.line = b.line) && decide (0 < e) then
      match c.mode with
      | .phaseTrail =>
        some (.held ⟨n, b.time + b.frontGuard,
          b.time + b.frontGuard + e * b.heldWindow / 1000⟩)
      | .phaseLead =>
        some (.pulse ⟨n, b.line, b.firstDue c e, 1, c.pulseWidth, c.pulseCount, b.latestStart c⟩)
      | .switch =>
        some (.pulse ⟨n, b.line, b.firstDue c e, 1, c.pulseWidth, c.pulseCount, b.latestStart c⟩)
      | .burst =>
        if r.burstCycleOn then
          some (.pulse ⟨n, b.line, b.firstDue c e, 1, c.pulseWidth, c.pulseCount, b.latestStart c⟩)
        else none
    else none

/-- The firing list of the half-cycle, in order of time, then of load index. -/
def State.firingList (s : State) (b : Boundary) : List FiringEntry :=
  ((List.finRange 24).filterMap fun n => b.entry n (s.load n)).foldr (insertBy FiringEntry.key) []

def State.buildList (s : State) (b : Boundary) : State :=
  { s with firing := { s.firing with lists := s.firing.lists.set b.line (s.firingList b) } }

/-- The load takes quiet samples of line `l`: ACTIVE or DEFINED, on the line, sensed (R98, R99). -/
def Record.samples (r : Record) (l : Line) : Bool :=
  (r.isActive || decide (r.state = .defined)) && r.onLine l && r.sensed

/-- Form the quiet sample of a declared boundary (R98); a synthetic boundary gives none (R41), and an
untaken sample of the half-cycle before it is over (log 20). -/
def State.formQuiet (s : State) (b : Boundary) : State :=
  { s with monitor := { s.monitor with
      quiet := s.monitor.quiet.set b.line
        (if b.declared then
          some ⟨b.time + b.frontGuard / 2, loadsWhere fun n => (s.load n).samples b.line⟩
        else none) } }

/-- A boundary acts on its line in the order of R111: waiting members, ramp steps, BURST decisions,
the old list dropped and the new one built, and the quiet-sample set. -/
def State.announce (s : State) (b : Boundary) : State :=
  (((((s.applyMembers (s.waitsOn b.line)).stepRamps b.line).decideBursts b).dropList b.line).buildList b).formQuiet b

/-- Line loss (R42): the flag, the cut of the line's loads with the line's list and waiting entries,
the quiet sample, then the members waiting on the line. The tracker is the caller's. -/
def State.loseLine (s : State) (l : Line) : State :=
  let dropped : Firing := { s.firing with
    lists := s.firing.lists.set l []
    waiting := s.firing.waiting.filter fun e => !decide (e.line = l) }
  let s1 := { s with
    firing := dropped
    monitor := { s.monitor with quiet := s.monitor.quiet.set l none }
    attention := s.attention.reportLine l fun d => { d with lost := true } }
  let s2 := s1.cutLoads fun n => (s.load n).onLine l
  s2.applyMembers (s2.waitsOn l)

/-! ### Load faults (R95, R99, R101) -/

/-- The record part of a fault (R101). -/
def Record.fault (r : Record) (cause : FaultCause) : Record :=
  { r.leaveActive .faulted with faultCause := some cause, missCount := 0, stuckCount := 0 }

/-- Fault the loads of `p` with one cause: records, cuts, FAULT detail (R101). A faulted load is not
quiet-sampled until the next declared boundary after CLEAR_FAULT (R103). -/
def State.faultLoads (s : State) (p : LoadIx → Bool) (cause : FaultCause) : State :=
  let s1 := (s.mapLoads fun n r => if p n then r.fault cause else r).cutLoads p
  { s1 with
    monitor := s1.monitor.leaveSamples p
    attention := s1.attention.reportFaults p }

def Record.missLimit (r : Record) : Nat := (r.config.map (·.missLimit)).getD 0

/-- Judge a post-firing check of an ACTIVE, sensed load by its reading (R95). -/
def State.judgeCheck (s : State) (n : LoadIx) (conducting : Bool) : State :=
  let r := s.load n
  if r.isActive && r.sensed then
    if conducting then s.modifyLoad n fun r => { r with missCount := 0 }
    else if r.missCount + 1 < r.missLimit then
      s.modifyLoad n fun r => { r with missCount := r.missCount + 1 }
    else s.faultLoads (fun m => m == n) .noConduction
  else s

/-- Judge one load of a quiet sample, short of the fault (R99). -/
def Record.judgeQuiet (r : Record) (conducting : Bool) : Record :=
  if conducting then
    if r.stuckCount + 1 < r.missLimit then { r with stuckCount := r.stuckCount + 1 } else r
  else { r with stuckCount := 0 }

/-- The quiet reading faults the load. -/
def Record.stuck (r : Record) (conducting : Bool) : Bool :=
  conducting && !decide (r.stuckCount + 1 < r.missLimit)

/-! ### All off (R85, R89) -/

/-- The one-time actions of R85: gates and lists emptied without a skip, ACTIVE loads DEFINED at level
0, every hold stopped. -/
def State.takeAllOff (s : State) : State :=
  let s1 := { s with
    loads := s.loads.mapIx fun _ r => if r.isActive then r.leaveActive .defined else r
    firing := .reset s.firing.inhibit
    monitor := { s.monitor with checks := [] } }
  s1.stopHolds fun _ => true

/-! ### Resets -/

/-- What power-on and pin reset do to every block while the reset lasts (R26, R46, R90, R105, R119,
R137, R162, R174, R183). Pin levels, timebase and queue are not the part's to reset. -/
def State.hardReset (s : State) : State :=
  { s with
    loads := .fill 24 .vacant
    lineConfig := .default
    trackers := .fill (.reset true)
    firing := .reset false
    monitor := .reset
    commit := .reset
    scenes := .reset
    link := .reset
    port := .reset s.now
    attention := .cleared 0 }

/-- A reset ends: SAFETY gains restarted, and ALLOFF is judged (R91, R183). -/
def State.endReset (s : State) : State :=
  { s with
    firing := { s.firing with inhibit := s.allOff }
    port := { s.port with openSince := s.now }
    attention := .afterReset s.attention.mask s.allOff }

/-- Mark the poll in flight for discard (R147). A poll stopped with the link or by RESTART holds the
next Poll frame back to the end of its window (R143, R162). -/
def StationLink.discardPoll (k : StationLink) (why : Discard) : StationLink :=
  match k.poll with
  | none => k
  | some q =>
    match why with
    | .removed => { k with poll := some { q with discard := some (q.discard.getD .removed) } }
    | .stopped =>
      { k with
        poll := some { q with discard := some .stopped }
        nextPollAt := max k.nextPollAt q.windowEnd }

/-- A slot after soft reset (R162). -/
def StationSlot.softReset (x : StationSlot) : StationSlot :=
  if x.state = .empty then x
  else { x with state := .offline, lastSeq := none, lastResult := .nothing, failCount := 0, hold := none }

/-- The Station Link Unit at a soft reset: with the link on, polling resumes with a new round (R162). -/
def StationLink.softReset (k : StationLink) : StationLink :=
  StationLink.chooseNext { k.discardPoll .stopped with
    slots := k.slots.mapIx fun _ x => x.softReset
    roundPosition := none
    rediscovered := false
    pointer := 7 }

/-- The soft-reset action of every block (R173). -/
def State.softReset (s : State) : State :=
  { s with
    loads := .fill 24 .vacant
    trackers := ⟨.reset s.lineConfig.enable.a, .reset s.lineConfig.enable.b, .reset s.lineConfig.enable.c⟩
    firing := .reset s.allOff
    monitor := .reset
    commit := .reset
    link := s.link.softReset
    attention := .afterReset s.attention.mask s.allOff }

end Sys2Proof.Machine
end

