-- ==== Sys2Proof/Machine/Outcome.lean ====
section
/-!
DEFINITION. The outcome of a command: every command of the GJ-324 answers a next state. While RST is low
the part takes no event but the end of the reset (R28, R84, R90, R105, R144, R162, R174).
-/

namespace Sys2Proof.Machine

abbrev Result := Host.Outcome State Fault Refusal

/-- The command is taken at `t`; what it does is `f`, unless RST is low. -/
def State.takes (s : State) (t : Nat) (f : State → State) : Result :=
  .next (if s.rstLow then s.at t else f (s.at t))

end Sys2Proof.Machine
end

