-- ==== Sys2Proof/Machine/Lines.lean ====
section
/-!
DEFINITION. The family of line tracking (chapter 2): ZERO_CROSS_EDGE, ACQUISITION_TIMEOUT,
ACCEPTANCE_WINDOW_CLOSE, and what CONFIGURE_LINES does to a tracker (R30).
-/

namespace Sys2Proof.Machine

/-- What a tracker reports under LINE (R45). -/
inductive LineEvent
  | locked
  | holdoverEntered
  | lost
  deriving DecidableEq, Repr

/-- What one event does in a tracker: its next value, the boundary it announces (the track after it, and
whether it is declared), and its report. -/
structure Move where
  tracker : Tracker
  boundary : Option (Track × Bool)
  event : Option LineEvent
  deriving DecidableEq, Repr

namespace Tracker

/-- The event is not noticed. -/
def stay (x : Tracker) : Move := ⟨x, none, none⟩

/-- A spacing is good: in the band, and within 200 µs of the newest entry of the list (R33). -/
def goodSpacing (spacings : List Nat) (spacing : Nat) : Bool :=
  decide (Config.minHalfPeriod ≤ spacing ∧ spacing ≤ Config.maxHalfPeriod) &&
  match spacings.getLast? with
  | none => true
  | some x => decide (spacing ≤ x + Config.spacingTolerance ∧ x ≤ spacing + Config.spacingTolerance)

/-- P after a declared boundary in LOCKED (R35). -/
def smoothed (p spacing : Nat) : Nat :=
  let next := (p : Int) + ((spacing : Int) - p).tdiv Config.smoothing
  max Config.minHalfPeriod (min Config.maxHalfPeriod next.toNat)

def flip : Polarity → Polarity
  | .pos => .neg
  | .neg => .pos

/-- Predicted time of the next crossing. -/
def predicted (k : Track) : Nat := k.lastBoundary + k.p

/-- An edge in ACQUIRING (R33, R34). -/
def acquire (x : Tracker) (cfg : LineConfig) (last : Nat) (spacings : List Nat) (t : Nat) (level : Bool) :
    Move :=
  if goodSpacing spacings (t - last) then
    let run := spacings ++ [t - last]
    if run.length = Config.spacingsToLock then
      let k : Track := ⟨run.sum / 3, t, .ofLevel level, cfg.frontGuard, cfg.backGuard⟩
      ⟨{ x with lock := .locked k, counter := 0 }, some (k, true), some .locked⟩
    else stay { x with lock := .acquiring t run }
  else stay { x with lock := .acquiring t [] }

/-- An edge before the acceptance window opens (R36). -/
def noise (x : Tracker) : Move :=
  stay { x with noiseCount := min Config.saturation (x.noiseCount + 1) }

/-- An edge inside the acceptance window: LOCKED with the half-period `p` (R35, R38). -/
def declare (x : Tracker) (cfg : LineConfig) (p t : Nat) (level : Bool) : Move :=
  let k : Track := ⟨p, t, .ofLevel level, cfg.frontGuard, cfg.backGuard⟩
  ⟨{ x with lock := .locked k, counter := x.counter + 1 }, some (k, true), none⟩

/-- An edge at `t`, leaving the input at `level` (R28, R32 to R36, R38, Table 2-4). After the close of a
window the close itself comes first; an edge presented without it is not noticed (log 4). -/
def edge (x : Tracker) (cfg : LineConfig) (t : Nat) (level : Bool) : Move :=
  match x.lock with
  | .off => x.stay
  | .absent => stay { x with lock := .acquiring t [] }
  | .acquiring last spacings => x.acquire cfg last spacings t level
  | .locked k =>
    if t + Config.acceptance < predicted k then x.noise
    else if t ≤ predicted k + Config.acceptance then
      x.declare cfg (smoothed k.p (t - k.lastBoundary)) t level
    else x.stay
  | .holdover k _ =>
    if t + Config.acceptance < predicted k then x.noise
    else if t ≤ predicted k + Config.acceptance then x.declare cfg k.p t level
    else x.stay

/-- 25 ms after the last edge in ACQUIRING (R32). -/
def timeout (x : Tracker) (t : Nat) : Tracker :=
  match x.lock with
  | .acquiring last _ => if last + Config.acquisitionTimeout ≤ t then { x with lock := .absent } else x
  | .off => x
  | .absent => x
  | .locked _ => x
  | .holdover _ _ => x

/-- A synthetic boundary at the predicted time, leaving holdover count `n` (R37, R39). -/
def synthesize (x : Tracker) (cfg : LineConfig) (k : Track) (n : Nat) (event : Option LineEvent) : Move :=
  let k' : Track := ⟨k.p, predicted k, flip k.polarity, cfg.frontGuard, cfg.backGuard⟩
  ⟨{ x with lock := .holdover k' n, counter := x.counter + 1 }, some (k', false), event⟩

/-- The acceptance window closes with no edge taken in it (R37, R39). -/
def windowClose (x : Tracker) (cfg : LineConfig) (t : Nat) : Move :=
  match x.lock with
  | .locked k =>
    if predicted k + Config.acceptance ≤ t then x.synthesize cfg k 1 (some .holdoverEntered) else x.stay
  | .holdover k n =>
    if predicted k + Config.acceptance ≤ t then
      if n < Config.maxSynthetic then x.synthesize cfg k (n + 1) none
      else ⟨{ x with lock := .absent }, none, some .lost⟩
    else x.stay
  | .off => x.stay
  | .absent => x.stay
  | .acquiring _ _ => x.stay

/-- An accepted CONFIGURE_LINES with this line's enable (R30): a change from enabled to disabled, from
disabled to enabled, or none. -/
def configure (x : Tracker) (before after : Bool) : Move :=
  if before && !after then
    ⟨{ x with lock := .off }, none, if x.lock.track.isSome then some .lost else none⟩
  else if !before && after then stay { x with lock := .absent }
  else x.stay

end Tracker

/-- The boundary of a line with the track that opens its half-cycle (Table 2-5). -/
def Track.boundary (k : Track) (l : Line) (declared : Bool) (counter : BitVec 16) : Boundary where
  line := l
  time := k.lastBoundary
  polarity := k.polarity
  declared := declared
  p := k.p
  frontGuard := k.frontGuard
  backGuard := k.backGuard
  counter := counter

/-- The report of a tracker, with the line loss of R42 where it loses its line. -/
def State.lineEvent (s : State) (l : Line) : Option LineEvent → State
  | none => s
  | some .locked => { s with attention := s.attention.reportLine l fun d => { d with locked := true } }
  | some .holdoverEntered =>
    { s with attention := s.attention.reportLine l fun d => { d with holdoverEntered := true } }
  | some .lost => s.loseLine l

/-- A tracker moves: its new value, its report, and its boundary announced (R40). -/
def State.moveTracker (s : State) (l : Line) (m : Move) : State :=
  let s1 := { s with trackers := s.trackers.set l m.tracker }
  let s2 := s1.lineEvent l m.event
  match m.boundary with
  | none => s2
  | some (k, declared) => s2.announce (k.boundary l declared m.tracker.counter)

/-- ZERO_CROSS_EDGE (R28). The command is an edge of the input, whatever level `zc` held before it (DESIGN
CHOICE, log 28; safe). The input keeps its level while RST is low, unnoticed. -/
def execZeroCrossEdge (t : Nat) (line : Line) (level : Bool) (s : State) : Result :=
  let s1 := { s with zc := s.zc.set line level }
  s1.takes t fun s => s.moveTracker line ((s.trackers.get line).edge s.lineConfig s.now level)

/-- ACQUISITION_TIMEOUT (R32). -/
def execAcquisitionTimeout (t : Nat) (line : Line) (s : State) : Result :=
  s.takes t fun s => { s with trackers := s.trackers.set line ((s.trackers.get line).timeout s.now) }

/-- ACCEPTANCE_WINDOW_CLOSE (R37, R39). -/
def execAcceptanceWindowClose (t : Nat) (line : Line) (s : State) : Result :=
  s.takes t fun s => s.moveTracker line ((s.trackers.get line).windowClose s.lineConfig s.now)

end Sys2Proof.Machine
end

