-- ==== Sys2Proof/Machine/Port.lean ====
section
/-!
DEFINITION. The Control Port and the Command Unit (chapter 9): the family of transactions COMMAND_WRITE,
RESPONSE_READ, TRANSACTION_IGNORED; how a frame is checked and a command carried out and answered
(R165 to R171); and the executions UNKNOWN_COMMAND and FRAME_NOT_INTACT.
-/

namespace Sys2Proof.Machine

/-! ### Transactions (R163, R164, R165, R168, R174) -/

/-- A transaction is taken only if its CS fell after the last reset's end (R174). -/
def State.portTakes (s : State) (csFell : Nat) : Bool := decide (s.port.openSince ≤ csFell)

/-- SDO held high over `n` bytes (R163). -/
def sdoHigh (n : Nat) : List Byte := List.replicate n 0xFF#8

/-- A frame taken when CS rises (R165). Bytes past the longest frame are not kept (R164, Table 9-1). -/
def CommandUnit.takeFrame (u : CommandUnit) (frame : List Byte) : CommandUnit :=
  match u.unit with
  | .idle => { u with unit := .executing (frame.take Config.maxFrame) }
  | .responseReady _ =>
    { u with unit := .executing (frame.take Config.maxFrame), lostResponse := true }
  | .executing _ => { u with overrun := true }

/-- COMMAND_WRITE (R163 to R165). A command write with no byte after its kind byte gives no frame. -/
def execCommandWrite (t csFell : Nat) (frame : List Byte) (s : State) : Result :=
  s.takes t fun s =>
    if s.portTakes csFell then
      let u := { s.port with sdo := sdoHigh frame.length }
      { s with port := if frame = [] then u else u.takeFrame frame }
    else s

/-- A response read that clocks `n` bytes after its kind byte (R168): the response is consumed once its
status byte has been shifted out. -/
def CommandUnit.read (u : CommandUnit) (n : Nat) : CommandUnit :=
  match u.unit with
  | .responseReady r =>
    { u with
      unit := if n = 0 then u.unit else .idle
      sdo := shiftOut r.image n }
  | .idle => { u with sdo := shiftOut [Status.notReady.code] n }
  | .executing _ => { u with sdo := shiftOut [Status.notReady.code] n }

/-- RESPONSE_READ (R168), taken at its kind byte, with the consumption at the rise of CS (log 9). -/
def execResponseRead (t csFell clocked : Nat) (s : State) : Result :=
  s.takes t fun s => if s.portTakes csFell then { s with port := s.port.read clocked } else s

/-- TRANSACTION_IGNORED: it changes no state of the Command Unit, and SDO is held high after its first
byte (R163). -/
def execTransactionIgnored (t csFell : Nat) (bytes : List Byte) (s : State) : Result :=
  s.takes t fun s =>
    if s.portTakes csFell then
      { s with port := { s.port with sdo := sdoHigh (bytes.length - 1) } }
    else s

/-! ### Checking, carrying out, answering (R166, R167, R169 to R171) -/

/-- What the owning block gives back: a refusal, which changes nothing, or the state after the command
and the response payload (R167). -/
abbrev CommandResult := Except Status (State × List Byte)

/-- The argument check: a field outside its range or encoding fails it (R167). -/
def argument {α : Type} : Option α → Except Status α
  | some a => .ok a
  | none => .error .badArgument

/-- A check of R167 with the status of its failure. -/
def require (holds : Bool) (failure : Status) : Except Status Unit :=
  if holds then .ok () else .error failure

/-- Build the response: status, payload, the two marks, which are cleared, and the ATTENTION condition
of that moment (R166, R169 to R171). -/
def State.respond (s : State) (status : Status) (payload : List Byte) : State :=
  { s with port := { s.port with
      unit := .responseReady
        { status := status
          overrun := s.port.overrun
          lostResponse := s.port.lostResponse
          attention := s.attn
          payload := payload }
      overrun := false
      lostResponse := false } }

/-- The answer to a command: a refused command changes no state of any block (R167). -/
def State.answerWith (s : State) : CommandResult → State
  | .ok (s', payload) => s'.respond .ok payload
  | .error status => s.respond status []

/-- The frame under execution, if it is intact (R164). -/
def State.intactFrame (s : State) : Option Frame :=
  match s.port.unit with
  | .executing f => parseFrame f
  | .idle => none
  | .responseReady _ => none

/-- Execute the held frame where its code is `code`: the length check, then the checks and the action
of the command (R166, R167). With no such frame there is nothing to execute (log 8). -/
def State.execute (s : State) (code : Byte) (body : List Byte → State → CommandResult) : State :=
  match s.intactFrame with
  | none => s
  | some f =>
    if f.code = code then
      if (lengthRule code).any fun r => r.holds f.payload then s.answerWith (body f.payload s)
      else s.respond .badFrame []
    else s

/-- UNKNOWN_COMMAND: an intact frame whose code is none of the 29 (R167). -/
def execUnknownCommand (t : Nat) (s : State) : Result :=
  s.takes t fun s =>
    match s.intactFrame with
    | none => s
    | some f => if (lengthRule f.code).isNone then s.respond .unknownCommand [] else s

/-- FRAME_NOT_INTACT: a frame that fails R164 (R167). -/
def execFrameNotIntact (t : Nat) (s : State) : Result :=
  s.takes t fun s =>
    match s.port.unit with
    | .executing f => if (parseFrame f).isNone then s.respond .badFrame [] else s
    | .idle => s
    | .responseReady _ => s

end Sys2Proof.Machine
end

