-- ==== Sys2Proof/Machine/LineCommands.lean ====
section
/-!
DEFINITION. The line commands CONFIGURE_LINES and READ_LINE (R29 to R31, R44).
-/

namespace Sys2Proof.Machine

/-- The six settings of CONFIGURE_LINES; none where a value is out of its range (Table 2-2, R29). -/
def lineConfigAt (p : List Byte) : Option LineConfig :=
  let enables := byteAt p 0
  let front := wordAt p 1
  let back := wordAt p 3
  let nominal := wordAt p 5
  if enables < 8 ∧ 300 ≤ front ∧ front ≤ 2000 ∧ 200 ≤ back ∧ back ≤ 2000 ∧
      Config.minHalfPeriod ≤ nominal ∧ nominal ≤ Config.maxHalfPeriod ∧ front + back ≤ 4000 then
    some ⟨⟨enables.testBit 0, enables.testBit 1, enables.testBit 2⟩, front, back, nominal⟩
  else none

/-- One tracker under a new line configuration (R30). -/
def State.configureTracker (s : State) (before after : PerLine Bool) (l : Line) : State :=
  s.moveTracker l ((s.trackers.get l).configure (before.get l) (after.get l))

/-- CONFIGURE_LINES (R29, R30). -/
def configureLines (p : List Byte) (s : State) : CommandResult := do
  let c ← argument (lineConfigAt p)
  let before := s.lineConfig.enable
  let s1 := { s with lineConfig := c }
  let s2 := s1.configureTracker before c.enable .a
  let s3 := s2.configureTracker before c.enable .b
  return (s3.configureTracker before c.enable .c, [])

/-- READ_LINE (R44): the noise count is reported and set to 0. -/
def readLine (p : List Byte) (s : State) : CommandResult := do
  let l ← argument (lineOfCode (byteAt p 0))
  let x := s.trackers.get l
  return ({ s with trackers := s.trackers.set l { x with noiseCount := 0 } },
    trackerImage x (s.zc.get l))

/-- Executes CONFIGURE_LINES. -/
def execConfigureLines (t : Nat) (s : State) : Result :=
  s.takes t fun s => s.execute 0x10#8 configureLines

/-- Executes READ_LINE. -/
def execReadLine (t : Nat) (s : State) : Result :=
  s.takes t fun s => s.execute 0x11#8 readLine

end Sys2Proof.Machine
end

