-- ==== Sys2Proof/Machine/Resets.lean ====
section
/-!
DEFINITION. The family of the resets and of the ALLOFF input: POWER_ON_RESET, PIN_RESET, PIN_RESET_END,
ALLOFF_ASSERTION, ALLOFF_RELEASE (R26, R84 to R91, R174, R183).
-/

namespace Sys2Proof.Machine

/-- POWER_ON_RESET (R26, R183). The timebase starts at 0 (DESIGN CHOICE, log 5; unsafe). Where RST is
low as VDD is applied the part stays in reset until RST returns high (DEDUCED from R174 and R183, log 18;
unsafe). -/
def execPowerOnReset (s : State) : Result :=
  let s1 := { s with now := 0 }.hardReset
  .next (if s.rstLow then s1 else s1.endReset)

/-- PIN_RESET: RST goes low, and every block holds its reset values (R26, R46, R90, R119, R162, R174,
R183). With RST low already there is no change of the input. -/
def execPinReset (t : Nat) (s : State) : Result :=
  s.takes t fun s => { s with rstLow := true }.hardReset

/-- PIN_RESET_END: RST returns high (R91, R174, R183). With RST high already there is no change of the
input. -/
def execPinResetEnd (t : Nat) (s : State) : Result :=
  .next (if s.rstLow then { s.at t with rstLow := false }.endReset else s.at t)

/-- ALLOFF_ASSERTION: a change of ALLOFF from low to high (R85). While RST is low only the level
changes (R91). With ALLOFF high already there is no change of the input (R84). -/
def execAlloffAssertion (t : Nat) (s : State) : Result :=
  let s1 := { s.at t with allOff := true }
  if s.rstLow || s.allOff then .next s1
  else
    let s2 := s1.takeAllOff
    .next { s2 with
      firing := { s2.firing with inhibit := true }
      attention := s2.attention.reportSafety fun d => { d with allOffAsserted := true } }

/-- ALLOFF_RELEASE: a change of ALLOFF from high to low ends inhibit and restores nothing (R87). -/
def execAlloffRelease (t : Nat) (s : State) : Result :=
  let s1 := { s.at t with allOff := false }
  if s.rstLow || !s.allOff then .next s1
  else
    .next { s1 with
      firing := { s1.firing with inhibit := false }
      attention := s1.attention.reportSafety fun d => { d with allOffReleased := true } }

end Sys2Proof.Machine
end

