-- ==== Sys2Proof/Machine/SceneCommands.lean ====
section
/-!
DEFINITION. The scene commands (chapter 7): WRITE_SCENE, DELETE_SCENE, READ_SCENE, RECALL_SCENE,
READ_POOL.
-/

namespace Sys2Proof.Machine

/-- Pool entries a scene holds: 0 while it is undefined (R124, R126). -/
def heldEntries : Option Scene → Nat
  | none => 0
  | some c => c.entries.length

/-- The fade and sorted entry list of WRITE_SCENE; none where the argument check of R125 fails. -/
def sceneAt (p : List Byte) : Option Scene := do
  let k := byteAt p 3
  let entries ← entriesAt p 4 k
  if wordAt p 1 ≤ 6000 ∧ 1 ≤ k ∧ k ≤ Config.maxEntries ∧ distinctLoads entries = true then
    some ⟨wordAt p 1, sortEntries entries⟩
  else none

/-- WRITE_SCENE (R125, R126). -/
def writeScene (p : List Byte) (s : State) : CommandResult := do
  let n ← argument (indexAt 32 p 0)
  let c ← argument (sceneAt p)
  let room := s.scenes.free + heldEntries (s.scenes.scenes.get n)
  require (decide (c.entries.length ≤ room)) .noSpace
  return ({ s with scenes := ⟨s.scenes.scenes.set n (some c), room - c.entries.length⟩ }, [])

/-- DELETE_SCENE (R127). -/
def deleteScene (p : List Byte) (s : State) : CommandResult := do
  let n ← argument (indexAt 32 p 0)
  let old := s.scenes.scenes.get n
  require old.isSome .state
  return ({ s with scenes := ⟨s.scenes.scenes.set n none, s.scenes.free + heldEntries old⟩ }, [])

/-- Defined, fade, entry count and entries; zeros for an undefined scene (R128). -/
def sceneImage : Option Scene → List Byte
  | none => [0, 0, 0, 0]
  | some c => [1] ++ word c.fade ++ [byte c.entries.length] ++ entryBytes c.entries

/-- READ_SCENE (R128). -/
def readScene (p : List Byte) (s : State) : CommandResult := do
  let n ← argument (indexAt 32 p 0)
  return (s, sceneImage (s.scenes.scenes.get n))

/-- The optional fade override of RECALL_SCENE: its bytes are not read when it is absent (R130, R186). -/
def overrideAt (p : List Byte) : Option (Option Nat) :=
  match boolAt p 1 with
  | none => none
  | some false => some none
  | some true => if wordAt p 2 ≤ 6000 then some (some (wordAt p 2)) else none

/-- A check that also gives the thing checked for (R167). -/
def present {α : Type} (x : Option α) (failure : Status) : Except Status α :=
  match x with
  | some a => .ok a
  | none => .error failure

/-- RECALL_SCENE (R130, R131). -/
def recallScene (p : List Byte) (s : State) : CommandResult := do
  let n ← argument (indexAt 32 p 0)
  let fade ← argument (overrideAt p)
  require (!s.firing.inhibit) .inhibited
  let c ← present (s.scenes.scenes.get n) .state
  let applied := s.appliedCount c.entries .controlPort
  return (s.recallScene n c.entries (fade.getD c.fade) .controlPort,
    [byte applied, byte (c.entries.length - applied)])

/-- READ_POOL (R129). -/
def readPool (_ : List Byte) (s : State) : CommandResult := .ok (s, [byte s.scenes.free])

/-- Executes WRITE_SCENE. -/
def execWriteScene (t : Nat) (s : State) : Result :=
  s.takes t fun s => s.execute 0x40#8 writeScene

/-- Executes DELETE_SCENE. -/
def execDeleteScene (t : Nat) (s : State) : Result :=
  s.takes t fun s => s.execute 0x41#8 deleteScene

/-- Executes READ_SCENE. -/
def execReadScene (t : Nat) (s : State) : Result :=
  s.takes t fun s => s.execute 0x42#8 readScene

/-- Executes RECALL_SCENE. -/
def execRecallScene (t : Nat) (s : State) : Result :=
  s.takes t fun s => s.execute 0x43#8 recallScene

/-- Executes READ_POOL. -/
def execReadPool (t : Nat) (s : State) : Result :=
  s.takes t fun s => s.execute 0x44#8 readPool

end Sys2Proof.Machine
end

