-- ==== Sys2Proof/Machine/Pulses.lean ====
section
/-!
DEFINITION. The family of gate firing (chapter 4): PULSE_DUE, PULSE_END, LATEST_START_PASSED,
HELD_DRIVE_START, HELD_DRIVE_END.
-/

namespace Sys2Proof.Machine

/-- A pulse entry that has fallen due. -/
def FiringEntry.duePulse (now : Nat) : FiringEntry → Option PulseEntry
  | .pulse e => if e.due ≤ now then some e else none
  | .held _ => none

/-- A held-drive entry of load `n` whose start time has come. -/
def FiringEntry.dueHeld (now : Nat) (n : LoadIx) : FiringEntry → Option HeldEntry
  | .pulse _ => none
  | .held e => if e.load = n ∧ e.start ≤ now then some e else none

def Firing.entries (f : Firing) : List FiringEntry := f.lists.a ++ f.lists.b ++ f.lists.c

/-- The pulses that fall due, in order of due time, then of load index (R78). -/
def Firing.duePulses (f : Firing) (now : Nat) : List PulseEntry :=
  (f.entries.filterMap (FiringEntry.duePulse now)).foldr (insertBy PulseEntry.key) []

/-- The due pulses leave the lists (R68) and go to the Pulse Arbiter one by one (R77, R78). -/
def Firing.takeDue (f : Firing) (now : Nat) : Firing :=
  let left := { f with lists := f.lists.map fun _ es => es.filter fun e => (e.duePulse now).isNone }
  (f.duePulses now).foldl (fun g e => g.arbitrate now e) left

/-- PULSE_DUE: every pulse entry due at the instant goes to the arbiter (R77, R78; log 12). -/
def execPulseDue (t : Nat) (s : State) : Result :=
  s.takes t fun s => { s with firing := s.firing.takeDue s.now }

/-- A completed train is handed to the Conduction Monitor: a check 150 µs after its last pulse, if the
load is sensed at that moment (R83, R94). -/
def State.handOver (s : State) (n : LoadIx) : State :=
  if (s.load n).sensed then
    { s with monitor := { s.monitor with
        checks := (s.monitor.checks.filter fun c => c.load != n) ++ [⟨n, s.now + Config.checkDelay⟩] } }
  else s

/-- What follows the full width of a pulse: the next pulse is listed if it falls due by the train's
latest start, or the train is abandoned with one skip, or it is fully driven (R75). -/
def State.continueTrain (s : State) (x : SlotPulse) : State :=
  if x.number < x.count then
    let due := s.now + Config.pulseGap
    let following : PulseEntry := ⟨x.load, x.line, due, x.number + 1, x.width, x.count, x.latestStart⟩
    if due ≤ x.latestStart then { s with firing := s.firing.list x.line (.pulse following) }
    else s.skipLoads fun n => n == x.load
  else s.handOver x.load

/-- The pulse of load `n` that has reached its full width. -/
def Firing.endingPulse (f : Firing) (n : LoadIx) (now : Nat) : Option SlotPulse :=
  f.slots.find? fun x => x.load == n && decide (x.stop ≤ now)

/-- PULSE_END: the gate goes low and the slot becomes free in one action; the slot is granted, and the
train continues (R75, R79, R81). -/
def execPulseEnd (t : Nat) (load : LoadIx) (s : State) : Result :=
  s.takes t fun s =>
    match s.firing.endingPulse load s.now with
    | none => s
    | some x =>
      let freed := { s.firing with slots := s.firing.slots.erase x }
      ({ s with firing := freed.grant s.now }).continueTrain x

/-- The waiting pulse of load `n` whose latest start has passed. -/
def Firing.lateEntry (f : Firing) (n : LoadIx) (now : Nat) : Option PulseEntry :=
  f.waiting.find? fun e => e.load == n && decide (e.latestStart < now)

/-- LATEST_START_PASSED: the entry is removed and its train abandoned with one skip (R80). -/
def execLatestStartPassed (t : Nat) (load : LoadIx) (s : State) : Result :=
  s.takes t fun s =>
    match s.firing.lateEntry load s.now with
    | none => s
    | some e =>
      ({ s with firing := { s.firing with waiting := s.firing.waiting.erase e } }).skipLoads
        fun n => n == load

/-- HELD_DRIVE_START: the entry leaves its list and its drive begins, whatever the state of the slots
(R68, R72). -/
def execHeldDriveStart (t : Nat) (load : LoadIx) (s : State) : Result :=
  s.takes t fun s =>
    match s.firing.entries.findSome? (FiringEntry.dueHeld s.now load) with
    | none => s
    | some e =>
      { s with firing := { s.firing with
          lists := s.firing.lists.map fun _ es => es.filter fun x => x != .held e
          held := (s.firing.held.filter fun h => h.load != load) ++ [⟨load, e.stop⟩] } }

/-- The level of S n as the part reads it (R93). -/
def State.sampleSense (s : State) (n : LoadIx) (level : Bool) : State :=
  { s with sense := loadsWhere fun m => if m = n then level else hasLoad s.sense m }

/-- HELD_DRIVE_END: the check is taken at the end time with the gate still high, and the gate is then
released (R72, R94). -/
def execHeldDriveEnd (t : Nat) (load : LoadIx) (level : Bool) (s : State) : Result :=
  s.takes t fun s =>
    match s.firing.held.find? fun h => h.load == load && decide (h.stop ≤ s.now) with
    | none => s
    | some h =>
      let s1 := (s.sampleSense load level).judgeCheck load level
      { s1 with firing := { s1.firing with held := s1.firing.held.erase h } }

end Sys2Proof.Machine
end

