-- ==== Sys2Proof/Machine/Sensing.lean ====
section
/-!
DEFINITION. The family of conduction monitoring (chapter 5): POST_FIRING_CHECK, QUIET_SAMPLE.
-/

namespace Sys2Proof.Machine

/-- The pending check of load `n` that has fallen due. -/
def Monitor.dueCheck (m : Monitor) (n : LoadIx) (now : Nat) : Option PendingCheck :=
  m.checks.find? fun c => c.load == n && decide (c.due ≤ now)

/-- POST_FIRING_CHECK: the check is removed and, where the load is still ACTIVE and sensed, judged by
the level of S n (R93, R95). -/
def execPostFiringCheck (t : Nat) (load : LoadIx) (level : Bool) (s : State) : Result :=
  s.takes t fun s =>
    match s.monitor.dueCheck load s.now with
    | none => s
    | some c =>
      let s1 := { s with monitor := { s.monitor with checks := s.monitor.checks.erase c } }
      (s1.sampleSense load level).judgeCheck load level

/-- Take the quiet sample of line `l` on the loads of `set` (R99): all in one action, each judged on its
own. -/
def State.sampleQuiet (s : State) (l : Line) (set : LoadSet) : State :=
  let sampled := fun n => hasLoad set n && (s.load n).samples l
  let stuck := fun n => sampled n && (s.load n).stuck (hasLoad s.sense n)
  let s1 := s.mapLoads fun n r => if sampled n then r.judgeQuiet (hasLoad s.sense n) else r
  s1.faultLoads stuck .stuckOn

/-- QUIET_SAMPLE: at the sample time every load of the set that still qualifies reads its S n (R98,
R99). -/
def execQuietSample (t : Nat) (line : Line) (levels : LoadSet) (s : State) : Result :=
  s.takes t fun s =>
    match s.monitor.quiet.get line with
    | none => s
    | some q =>
      if q.time ≤ s.now then
        { s with
          sense := levels
          monitor := { s.monitor with quiet := s.monitor.quiet.set line none } }.sampleQuiet line q.loads
      else s

end Sys2Proof.Machine
end

