-- ==== Sys2Proof/Machine/LoadCommands.lean ====
section
/-!
DEFINITION. The load commands (chapters 1 and 3): DEFINE_LOAD, ENABLE_LOAD, DISABLE_LOAD, RELEASE_LOAD,
SET_LEVEL, SET_LOCK, CLEAR_FAULT, READ_LOAD.
-/

namespace Sys2Proof.Machine

def State.inState (s : State) (n : LoadIx) (st : RecordState) : Bool := decide ((s.load n).state = st)

/-- DEFINE_LOAD (R11). -/
def defineLoad (p : List Byte) (s : State) : CommandResult := do
  let n ← argument (indexAt 24 p 0)
  let c ← argument (configAt p 1)
  require (s.inState n .vacant) .state
  return (s.modifyLoad n fun _ => { Record.vacant with state := .defined, config := some c }, [])

/-- ENABLE_LOAD (R12). -/
def enableLoad (p : List Byte) (s : State) : CommandResult := do
  let n ← argument (indexAt 24 p 0)
  require (!s.firing.inhibit) .inhibited
  require (s.inState n .defined) .state
  return (s.modifyLoad n fun r =>
    { r with
      state := .active
      currentLevel := 0
      targetLevel := 0
      ramp := none
      burstAccumulator := 0
      burstCycleOn := false
      missCount := 0 }, [])

/-- DISABLE_LOAD (R14): the load becomes DEFINED at level 0 with the cut of R15, and a pending member is
applied in the same execution (R112). -/
def disableLoad (p : List Byte) (s : State) : CommandResult := do
  let n ← argument (indexAt 24 p 0)
  require (s.inState n .active) .state
  let s1 := s.modifyLoad n fun r => { r.leaveActive .defined with missCount := 0 }
  let s2 := s1.cutLoads fun m => m == n
  return (if s2.isMember n then s2.applyMembers fun m => m == n else s2, [])

/-- RELEASE_LOAD (R17, R96): a load defined again at the index inherits nothing, no place in an untaken
quiet sample either (R18, R99). -/
def releaseLoad (p : List Byte) (s : State) : CommandResult := do
  let n ← argument (indexAt 24 p 0)
  require (s.inState n .defined || s.inState n .faulted) .state
  require (!s.isMember n) .busy
  let s1 := s.modifyLoad n fun _ => .vacant
  let left := (s1.monitor.removeChecks fun m => m == n).leaveSamples fun m => m == n
  return ({ s1 with monitor := left }, [])

/-- SET_LEVEL (R50): a claim with origin COMMAND. -/
def setLevel (p : List Byte) (s : State) : CommandResult := do
  let n ← argument (indexAt 24 p 0)
  require (decide (wordAt p 1 ≤ 1000 ∧ wordAt p 3 ≤ 6000)) .badArgument
  require (!s.firing.inhibit) .inhibited
  require (s.inState n .active) .state
  return (s.modifyLoad n fun r => r.claim (wordAt p 1) (wordAt p 3) (s.halfPeriodOf r) .command, [])

/-- SET_LOCK (R20). -/
def setLock (p : List Byte) (s : State) : CommandResult := do
  let n ← argument (indexAt 24 p 0)
  let on ← argument (boolAt p 1)
  require (!s.inState n .vacant) .state
  return (s.modifyLoad n fun r => { r with stationLock := on }, [])

/-- CLEAR_FAULT (R19). -/
def clearFault (p : List Byte) (s : State) : CommandResult := do
  let n ← argument (indexAt 24 p 0)
  require (s.inState n .faulted) .state
  return (s.modifyLoad n fun r =>
    { r.leaveActive .defined with faultCause := none, missCount := 0, stuckCount := 0 }, [])

/-- READ_LOAD (R22, R23): the image, with skip_count cleared in the same action. -/
def readLoad (p : List Byte) (s : State) : CommandResult := do
  let n ← argument (indexAt 24 p 0)
  return (s.modifyLoad n fun r => { r with skipCount := 0 }, recordImage (s.load n))

/-- Executes DEFINE_LOAD. -/
def execDefineLoad (t : Nat) (s : State) : Result :=
  s.takes t fun s => s.execute 0x20#8 defineLoad

/-- Executes ENABLE_LOAD. -/
def execEnableLoad (t : Nat) (s : State) : Result :=
  s.takes t fun s => s.execute 0x21#8 enableLoad

/-- Executes DISABLE_LOAD. -/
def execDisableLoad (t : Nat) (s : State) : Result :=
  s.takes t fun s => s.execute 0x22#8 disableLoad

/-- Executes RELEASE_LOAD. -/
def execReleaseLoad (t : Nat) (s : State) : Result :=
  s.takes t fun s => s.execute 0x23#8 releaseLoad

/-- Executes SET_LEVEL. -/
def execSetLevel (t : Nat) (s : State) : Result :=
  s.takes t fun s => s.execute 0x24#8 setLevel

/-- Executes SET_LOCK. -/
def execSetLock (t : Nat) (s : State) : Result :=
  s.takes t fun s => s.execute 0x25#8 setLock

/-- Executes CLEAR_FAULT. -/
def execClearFault (t : Nat) (s : State) : Result :=
  s.takes t fun s => s.execute 0x26#8 clearFault

/-- Executes READ_LOAD. -/
def execReadLoad (t : Nat) (s : State) : Result :=
  s.takes t fun s => s.execute 0x27#8 readLoad

end Sys2Proof.Machine
end

