-- ==== Sys2Proof/Machine/StagingCommands.lean ====
section
/-!
DEFINITION. The staging commands (chapter 6): STAGE_LOAD, DISCARD_STAGED, COMMIT, READ_COMMIT.
-/

namespace Sys2Proof.Machine

/-- STAGE_LOAD (R107). -/
def stageLoad (p : List Byte) (s : State) : CommandResult := do
  let n ← argument (indexAt 24 p 0)
  let c ← argument (configAt p 1)
  require (!s.inState n .vacant) .state
  require (!s.isMember n) .busy
  return (s.modifyLoad n fun r => { r with staged := some c }, [])

/-- DISCARD_STAGED (R108). -/
def discardStaged (p : List Byte) (s : State) : CommandResult := do
  let n ← argument (indexAt 24 p 0)
  require (!s.inState n .vacant) .state
  require (!s.isMember n) .busy
  return (s.modifyLoad n fun r => { r with staged := none }, [])

/-- The members of a commit accepted now: every load that holds a staged copy, in ascending index, with
the line of its configuration in force (R109, R110). -/
def State.stagedMembers (s : State) : List Member :=
  (List.finRange 24).filterMap fun n =>
    match (s.load n).staged, (s.load n).config with
    | some _, some c => some ⟨n, c.line⟩
    | some _, none => none
    | none, _ => none

/-- A member has a half-cycle to wait for: it is ACTIVE on a tracked line (R110). -/
def State.mustWait (s : State) (n : LoadIx) : Bool :=
  match (s.load n).config with
  | none => false
  | some c => (s.load n).isActive && s.tracks c.line

/-- COMMIT (R110). -/
def commit (_ : List Byte) (s : State) : CommandResult := do
  require (decide (s.commit.state = .idle)) .busy
  let s1 := { s with commit := ⟨.pending, s.stagedMembers, s.commit.seq + 1⟩ }
  let s2 := s1.applyMembers fun n => s1.isMember n && !s1.mustWait n
  return (s2, [s2.commit.seq, byte s2.commit.members.length])

/-- READ_COMMIT (R118, Table 11-3). -/
def readCommit (_ : List Byte) (s : State) : CommandResult :=
  let state : Byte := if s.commit.state = .pending then 1 else 0
  .ok (s, [state, s.commit.seq, byte s.commit.members.length] ++
    s.commit.members.flatMap fun m => [byte m.load.val, byte (lineCode m.line)])

/-- Executes STAGE_LOAD. -/
def execStageLoad (t : Nat) (s : State) : Result :=
  s.takes t fun s => s.execute 0x30#8 stageLoad

/-- Executes DISCARD_STAGED. -/
def execDiscardStaged (t : Nat) (s : State) : Result :=
  s.takes t fun s => s.execute 0x31#8 discardStaged

/-- Executes COMMIT. -/
def execCommit (t : Nat) (s : State) : Result :=
  s.takes t fun s => s.execute 0x32#8 commit

/-- Executes READ_COMMIT. -/
def execReadCommit (t : Nat) (s : State) : Result :=
  s.takes t fun s => s.execute 0x33#8 readCommit

end Sys2Proof.Machine
end

