-- ==== Sys2Proof/Machine/Stations.lean ====
section
/-!
DEFINITION. The family of the Station Link (chapter 8): POLL, the Reply rows IDLE, RECALL, RAISE_START,
LOWER_START, HOLD_STOP, OFF and REPLY_NOT_VALID, REPLY_WINDOW_CLOSE, HOLD_EXPIRY.
-/

namespace Sys2Proof.Machine

def State.slot (s : State) (i : SlotIx) : StationSlot := s.link.slots.get i

def State.modifySlot (s : State) (i : SlotIx) (f : StationSlot → StationSlot) : State :=
  { s with link := { s.link with slots := s.link.slots.modify i f } }

def StationSlot.allowed (x : StationSlot) : ZoneSet := (x.station.map (·.allowed)).getD 0

/-- Stop the slot's hold, if any (R157). -/
def State.stopHoldOf (s : State) (i : SlotIx) : State :=
  if (s.slot i).hold.isSome then s.stopHolds fun j => j == i else s

/-! ### Polling (R144 to R146, R151) -/

/-- LDE, high while a Poll frame is on the bus (R144). -/
def State.lde (s : State) : Bool :=
  match s.link.poll with
  | none => false
  | some q => decide (q.start ≤ s.now ∧ s.now < q.windowOpen)

namespace StationLink

/-- A Poll frame to slot `i` begins at `now` (R145, R151). -/
def sendPoll (k : StationLink) (i : SlotIx) (e : Enrolment) (now : Nat) : StationLink :=
  { k with
    poll := some
      { slot := i
        address := e.address
        start := now
        windowOpen := now + pollFrameTime
        windowEnd := now + pollFrameTime + Config.replyWindow
        discard := none
        answered := false }
    ltx := pollFrame e.address (k.slots.get i) }

/-- The poll in flight ends; the next Poll frame starts 200 µs later (R145), or at the end of the window
that a link disable or RESTART left running (R143, R162). -/
def endPoll (k : StationLink) (now : Nat) : StationLink :=
  match k.poll with
  | none => k
  | some q =>
    if q.discard = some .stopped then { k with poll := none }
    else { k with poll := none, nextPollAt := now + Config.turnaround }

end StationLink

/-- The next slot to poll is chosen as a poll has ended, or as polling begins (R146). -/
def State.chooseNext (s : State) : State := { s with link := s.link.chooseNext }

/-- POLL (R145, R146, R151): with the link on, no poll in flight and the turnaround over, the slot chosen
is polled (log 15). -/
def execPoll (t : Nat) (s : State) : Result :=
  s.takes t fun s =>
    if s.link.enable && s.link.poll.isNone && decide (s.link.nextPollAt ≤ s.now) then
      match s.link.chosen with
      | none => s
      | some c =>
        match (s.slot c.slot).station with
        | none => s
        | some e =>
          { s with link := StationLink.sendPoll { s.link.polled c with chosen := none } c.slot e s.now }
    else s

/-! ### Poll outcomes (R147, R148) -/

/-- A failed poll of slot `i` (R148). -/
def State.failPoll (s : State) (i : SlotIx) : State :=
  let x := s.slot i
  match x.state with
  | .empty => s
  | .offline => s
  | .online =>
    if x.failCount + 1 < Config.failsToOffline then
      s.modifySlot i fun x => { x with failCount := x.failCount + 1 }
    else
      let s1 := (s.stopHoldOf i).modifySlot i fun x => { x with state := .offline, failCount := 0 }
      { s1 with attention := s1.attention.reportStation i fun d => { d with offline := true } }

/-- REPLY_WINDOW_CLOSE: the poll has failed, or its outcome is ignored (R145, R147, R148), and the next
slot is chosen (R146). -/
def execReplyWindowClose (t : Nat) (s : State) : Result :=
  s.takes t fun s =>
    match s.link.poll with
    | none => s
    | some q =>
      if q.windowEnd ≤ s.now then
        let s1 := { s with link := s.link.endPoll s.now }
        State.chooseNext (if q.discard.isSome then s1 else s1.failPoll q.slot)
      else s

/-- A valid Reply of slot `i` (R147). -/
def State.answer (s : State) (i : SlotIx) : State :=
  if (s.slot i).state = .offline then
    let s1 := s.modifySlot i fun x => { x with state := .online, failCount := 0 }
    { s1 with attention := s1.attention.reportStation i fun d => { d with online := true } }
  else s.modifySlot i fun x => { x with failCount := 0 }

/-- The poll whose reply window is open and still listening (R144, R145). -/
def State.listening (s : State) : Option Poll :=
  match s.link.poll with
  | none => none
  | some q =>
    if q.windowOpen ≤ s.now ∧ s.now ≤ q.windowEnd ∧ q.answered = false then some q else none

/-- A Reply frame received complete in the window. Where it is valid and of the kind `handle` takes, it
ends the poll and acts on the polled slot; the outcome of a discarded poll is ignored (R145, R147). The
next slot is then chosen (R146). -/
def State.takeReply (s : State) (frame : List Byte)
    (handle : Request → Option (SlotIx → State → State)) : State :=
  match s.listening with
  | none => s
  | some q =>
    match (parseReply q.address frame).bind handle with
    | none => s
    | some f =>
      let s1 := { s with link := s.link.endPoll s.now }
      State.chooseNext (if q.discard.isSome then s1 else f q.slot (s1.answer q.slot))

/-! ### Judging requests (R149, R150) -/

/-- The refusal of a zone request, if any: inhibit, then the zone (R150). -/
def State.refuseZone (s : State) (i : SlotIx) (z : Zone) : Option Reason :=
  if s.firing.inhibit then some .inhibited
  else if hasZone (s.slot i).allowed z then none
  else some .notAllowed

/-- The refusal of a RECALL, if any: inhibit, then the scene (R134, R150). -/
def State.refuseRecall (s : State) (n : SceneIx) : Option Reason :=
  if s.firing.inhibit then some .inhibited
  else if (s.scenes.scenes.get n).isSome then none
  else some .noScene

/-- A request other than IDLE (R149, R150): a duplicate changes nothing; a new one takes its sequence
bit and is refused for `refusal`, or accepted and carried out. -/
def State.judge (s : State) (i : SlotIx) (seq : Bool) (refusal : Option Reason)
    (carryOut : State → State) : State :=
  if (s.slot i).lastSeq = some seq then s
  else
    match refusal with
    | some why =>
      let s1 := s.modifySlot i fun x => { x with lastSeq := some seq, lastResult := .refused why }
      { s1 with attention := s1.attention.reportStation i fun d => { d with refused := true } }
    | none => carryOut (s.modifySlot i fun x => { x with lastSeq := some seq, lastResult := .accepted })

/-! ### Carrying out requests (R152 to R156) -/

/-- The expiry time of a hold made or kept alive now (R158). -/
def State.holdExpiryTime (s : State) : Nat := s.now + s.link.holdExpiry * 1000

/-- RAISE_START and LOWER_START: a keep-alive of the slot's matching hold, or a new hold (R153). -/
def State.startHold (s : State) (i : SlotIx) (z : Zone) (d : Direction) : State :=
  let expiry := s.holdExpiryTime
  if ((s.slot i).hold.map fun h => (h.zone, h.direction)) = some (z, d) then
    s.modifySlot i fun x => { x with hold := some ⟨z, d, expiry⟩ }
  else
    ((s.stopHoldOf i).modifySlot i fun x => { x with hold := some ⟨z, d, expiry⟩ }).mapLoads
      fun _ r => if r.eligible z then r.claimHold d s.link.holdStep i else r

/-- HOLD_STOP: the slot's hold is stopped if it is on that zone (R154). -/
def State.endHold (s : State) (i : SlotIx) (z : Zone) : State :=
  if ((s.slot i).hold.map (·.zone)) = some z then s.stopHoldOf i else s

/-- OFF: every eligible load of the zone is claimed to 0 with off_fade (R61, R155). -/
def State.zoneOff (s : State) (i : SlotIx) (z : Zone) : State :=
  s.mapLoads fun _ r =>
    if r.eligible z then r.claim 0 s.link.offFade (s.halfPeriodOf r) (.station i) else r

/-- RECALL: the recall of R131 under the conditions of R134 (R156). -/
def State.stationRecall (s : State) (i : SlotIx) (n : SceneIx) : State :=
  match s.scenes.scenes.get n with
  | none => s
  | some c => s.recallScene n c.entries c.fade (.station (s.slot i).allowed)

/-! ### The Reply rows -/

/-- What IDLE does: last_result becomes NONE (R149). -/
def Request.takeIdle : Request → Option (SlotIx → State → State)
  | .idle => some fun i s => s.modifySlot i fun x => { x with lastResult := .nothing }
  | .recall _ _ => none
  | .raiseStart _ _ => none
  | .lowerStart _ _ => none
  | .holdStop _ _ => none
  | .off _ _ => none

def Request.takeRecall : Request → Option (SlotIx → State → State)
  | .recall n seq => some fun i s => s.judge i seq (s.refuseRecall n) fun s => s.stationRecall i n
  | .idle => none
  | .raiseStart _ _ => none
  | .lowerStart _ _ => none
  | .holdStop _ _ => none
  | .off _ _ => none

def Request.takeRaise : Request → Option (SlotIx → State → State)
  | .raiseStart z seq => some fun i s => s.judge i seq (s.refuseZone i z) fun s => s.startHold i z .raise
  | .idle => none
  | .recall _ _ => none
  | .lowerStart _ _ => none
  | .holdStop _ _ => none
  | .off _ _ => none

def Request.takeLower : Request → Option (SlotIx → State → State)
  | .lowerStart z seq => some fun i s => s.judge i seq (s.refuseZone i z) fun s => s.startHold i z .lower
  | .idle => none
  | .recall _ _ => none
  | .raiseStart _ _ => none
  | .holdStop _ _ => none
  | .off _ _ => none

def Request.takeHoldStop : Request → Option (SlotIx → State → State)
  | .holdStop z seq => some fun i s => s.judge i seq (s.refuseZone i z) fun s => s.endHold i z
  | .idle => none
  | .recall _ _ => none
  | .raiseStart _ _ => none
  | .lowerStart _ _ => none
  | .off _ _ => none

def Request.takeOff : Request → Option (SlotIx → State → State)
  | .off z seq => some fun i s => s.judge i seq (s.refuseZone i z) fun s => s.zoneOff i z
  | .idle => none
  | .recall _ _ => none
  | .raiseStart _ _ => none
  | .lowerStart _ _ => none
  | .holdStop _ _ => none

/-- IDLE (R149). -/
def execIdle (t : Nat) (frame : List Byte) (s : State) : Result :=
  s.takes t fun s => s.takeReply frame Request.takeIdle

/-- RECALL (R134, R156). -/
def execRecall (t : Nat) (frame : List Byte) (s : State) : Result :=
  s.takes t fun s => s.takeReply frame Request.takeRecall

/-- RAISE_START (R153). -/
def execRaiseStart (t : Nat) (frame : List Byte) (s : State) : Result :=
  s.takes t fun s => s.takeReply frame Request.takeRaise

/-- LOWER_START (R153). -/
def execLowerStart (t : Nat) (frame : List Byte) (s : State) : Result :=
  s.takes t fun s => s.takeReply frame Request.takeLower

/-- HOLD_STOP (R154). -/
def execHoldStop (t : Nat) (frame : List Byte) (s : State) : Result :=
  s.takes t fun s => s.takeReply frame Request.takeHoldStop

/-- OFF (R155). -/
def execOff (t : Nat) (frame : List Byte) (s : State) : Result :=
  s.takes t fun s => s.takeReply frame Request.takeOff

/-- REPLY_NOT_VALID: a complete Reply that is not valid leaves the poll to fail and the window deaf; a
poll marked for discard it ends at once (R145, R147). -/
def execReplyNotValid (t : Nat) (frame : List Byte) (s : State) : Result :=
  s.takes t fun s =>
    match s.listening with
    | none => s
    | some q =>
      if replyComplete frame && (parseReply q.address frame).isNone then
        if q.discard.isSome then State.chooseNext { s with link := s.link.endPoll s.now }
        else { s with link := { s.link with poll := some { q with answered := true } } }
      else s

/-- HOLD_EXPIRY: the timebase reaches the expiry time of the slot's hold (R158). -/
def execHoldExpiry (t : Nat) (slot : SlotIx) (s : State) : Result :=
  s.takes t fun s =>
    match (s.slot slot).hold with
    | none => s
    | some h =>
      if h.expiry ≤ s.now then
        let s1 := s.stopHoldOf slot
        { s1 with attention := s1.attention.reportStation slot fun d => { d with holdExpired := true } }
      else s

end Sys2Proof.Machine
end

