-- ==== Sys2Proof/Machine/StationCommands.lean ====
section
/-!
DEFINITION. The station commands (chapter 8): CONFIGURE_LINK, ENROLL_STATION, REMOVE_STATION,
READ_STATION.
-/

namespace Sys2Proof.Machine

/-- The four settings of CONFIGURE_LINK (Table 8-2). -/
structure LinkSettings where
  enable : Bool
  holdStep : Nat
  holdExpiry : Nat
  offFade : Nat
  deriving DecidableEq, Repr

/-- The settings carried; none where a value is out of its range (R142). -/
def linkSettingsAt (p : List Byte) : Option LinkSettings := do
  let on ← boolAt p 0
  let step := byteAt p 1
  let expiry := wordAt p 2
  let fade := wordAt p 4
  if 1 ≤ step ∧ step ≤ 50 ∧ 200 ≤ expiry ∧ expiry ≤ 5000 ∧ fade ≤ 6000 then
    some ⟨on, step, expiry, fade⟩
  else none

/-- A change of link_enable (R143): off stops every hold, discards the poll in flight and ends polling; on
begins a new round. -/
def State.switchLink (s : State) (before after : Bool) : State :=
  if before && !after then
    let s1 := s.stopHolds fun i => (s.slot i).hold.isSome
    { s1 with link := (s1.link.discardPoll .stopped).chooseNext }
  else if !before && after then { s with link := s.link.newRound.chooseNext }
  else s

/-- CONFIGURE_LINK (R142, R143). -/
def configureLink (p : List Byte) (s : State) : CommandResult := do
  let c ← argument (linkSettingsAt p)
  let s1 := { s with link := { s.link with
    enable := c.enable, holdStep := c.holdStep, holdExpiry := c.holdExpiry, offFade := c.offFade } }
  return (s1.switchLink s.link.enable c.enable, [])

def StationLink.inUse (k : StationLink) (i : SlotIx) : Bool := decide ((k.slots.get i).state ≠ .empty)

/-- A slot that is not EMPTY holds the address (R139). -/
def StationLink.addressTaken (k : StationLink) (address : Nat) : Bool :=
  (List.finRange 8).any fun i => k.inUse i && decide ((k.slots.get i).station.map (·.address) = some address)

/-- The lowest-indexed EMPTY slot (R139). -/
def StationLink.freeSlot (k : StationLink) : Option SlotIx := (List.finRange 8).find? fun i => !k.inUse i

/-- ENROLL_STATION (R139). With no slot in use polling had stopped, and it begins with a new round
(R146, log 24). -/
def enrollStation (p : List Byte) (s : State) : CommandResult := do
  let address := byteAt p 0
  require (decide (1 ≤ address ∧ address ≤ 31)) .badArgument
  require (!s.link.addressTaken address) .state
  match s.link.freeSlot with
  | none => .error .noSpace
  | some i =>
    let stopped := (List.finRange 8).all fun j => !s.link.inUse j
    let enrolled : StationSlot :=
      { StationSlot.vacated with state := .offline, station := some ⟨address, p.getD 1 0⟩ }
    let k := { s.link with slots := s.link.slots.set i enrolled }
    return ({ s with link := if stopped then k.newRound.chooseNext else k }, [byte i.val])

/-- REMOVE_STATION (R140). A slot chosen for the next Poll frame is chosen anew (log 14). -/
def removeStation (p : List Byte) (s : State) : CommandResult := do
  let i ← argument (indexAt 8 p 0)
  require (s.link.inUse i) .state
  let s1 := (s.stopHoldOf i).modifySlot i fun _ => .vacated
  let k := if (s1.link.poll.map (·.slot)) = some i then s1.link.discardPoll .removed else s1.link
  return ({ s1 with link := k.chooseWithout i }, [])

/-- READ_STATION (R141). -/
def readStation (p : List Byte) (s : State) : CommandResult := do
  let i ← argument (indexAt 8 p 0)
  return (s, stationImage (s.slot i) s.now)

/-- Executes CONFIGURE_LINK. -/
def execConfigureLink (t : Nat) (s : State) : Result :=
  s.takes t fun s => s.execute 0x50#8 configureLink

/-- Executes ENROLL_STATION. -/
def execEnrollStation (t : Nat) (s : State) : Result :=
  s.takes t fun s => s.execute 0x51#8 enrollStation

/-- Executes REMOVE_STATION. -/
def execRemoveStation (t : Nat) (s : State) : Result :=
  s.takes t fun s => s.execute 0x52#8 removeStation

/-- Executes READ_STATION. -/
def execReadStation (t : Nat) (s : State) : Result :=
  s.takes t fun s => s.execute 0x53#8 readStation

end Sys2Proof.Machine
end

