-- ==== Sys2Proof/Machine/SystemCommands.lean ====
section
/-!
DEFINITION. The attention, output and system commands: READ_SUMMARY, READ_EVENTS, SET_EVENT_MASK (R179
to R181), ALL_OFF (R89), IDENTIFY (R172), RESTART (R173).
-/

namespace Sys2Proof.Machine

/-- READ_SUMMARY (R179): the pending set, the highest unmasked pending class or 0, the mask. -/
def readSummary (_ : List Byte) (s : State) : CommandResult :=
  let highest : Byte := (s.attention.highest.map classCode).getD 0
  .ok (s, [s.attention.pendingSet, highest, s.attention.mask.setWidth 8])

/-- READ_EVENTS (R180): the detail of one class is copied and emptied. -/
def readEvents (p : List Byte) (s : State) : CommandResult := do
  let c ← argument (classOfCode (byteAt p 0))
  return ({ s with attention := s.attention.emptied c }, classCode c :: detailBytes s.attention c)

/-- SET_EVENT_MASK (R181): the whole mask is replaced; a set bit 6 or 7 fails the argument check. -/
def setEventMask (p : List Byte) (s : State) : CommandResult := do
  require (decide (byteAt p 0 < 64)) .badArgument
  return ({ s with attention := { s.attention with mask := BitVec.ofNat 6 (byteAt p 0) } }, [])

/-- ALL_OFF (R89): the one-time actions of R85, without inhibit. -/
def allOff (_ : List Byte) (s : State) : CommandResult :=
  let s1 := s.takeAllOff
  .ok ({ s1 with attention := s1.attention.reportSafety fun d => { d with allOffCommand := true } }, [])

/-- IDENTIFY (R172). -/
def identify (_ : List Byte) (s : State) : CommandResult :=
  .ok (s, word Config.partNumber ++ [byte Config.formatRevision])

/-- RESTART (R173). -/
def restart (_ : List Byte) (s : State) : CommandResult := .ok (s.softReset, [])

/-- Executes READ_SUMMARY. -/
def execReadSummary (t : Nat) (s : State) : Result :=
  s.takes t fun s => s.execute 0x60#8 readSummary

/-- Executes READ_EVENTS. -/
def execReadEvents (t : Nat) (s : State) : Result :=
  s.takes t fun s => s.execute 0x61#8 readEvents

/-- Executes SET_EVENT_MASK. -/
def execSetEventMask (t : Nat) (s : State) : Result :=
  s.takes t fun s => s.execute 0x62#8 setEventMask

/-- Executes ALL_OFF. -/
def execAllOff (t : Nat) (s : State) : Result :=
  s.takes t fun s => s.execute 0x70#8 allOff

/-- Executes IDENTIFY. -/
def execIdentify (t : Nat) (s : State) : Result :=
  s.takes t fun s => s.execute 0x7E#8 identify

/-- Executes RESTART. -/
def execRestart (t : Nat) (s : State) : Result :=
  s.takes t fun s => s.execute 0x7F#8 restart

end Sys2Proof.Machine
end

