-- ==== Sys2Proof/Machine/Dispatch.lean ====
section
/-!
DEFINITION. One arm per command: the call of its meaning.
-/

namespace Sys2Proof.Machine

def exec (i : Instr) (s : State) : Host.Outcome State Fault Refusal :=
  match i with
  | .powerOnReset => Sys2Proof.Machine.execPowerOnReset s
  | .pinReset t => Sys2Proof.Machine.execPinReset t s
  | .pinResetEnd t => Sys2Proof.Machine.execPinResetEnd t s
  | .alloffAssertion t => Sys2Proof.Machine.execAlloffAssertion t s
  | .alloffRelease t => Sys2Proof.Machine.execAlloffRelease t s
  | .zeroCrossEdge t line level => Sys2Proof.Machine.execZeroCrossEdge t line level s
  | .acquisitionTimeout t line => Sys2Proof.Machine.execAcquisitionTimeout t line s
  | .acceptanceWindowClose t line => Sys2Proof.Machine.execAcceptanceWindowClose t line s
  | .pulseDue t => Sys2Proof.Machine.execPulseDue t s
  | .pulseEnd t load => Sys2Proof.Machine.execPulseEnd t load s
  | .latestStartPassed t load => Sys2Proof.Machine.execLatestStartPassed t load s
  | .heldDriveStart t load => Sys2Proof.Machine.execHeldDriveStart t load s
  | .heldDriveEnd t load level => Sys2Proof.Machine.execHeldDriveEnd t load level s
  | .postFiringCheck t load level => Sys2Proof.Machine.execPostFiringCheck t load level s
  | .quietSample t line levels => Sys2Proof.Machine.execQuietSample t line levels s
  | .holdExpiry t slot => Sys2Proof.Machine.execHoldExpiry t slot s
  | .poll t => Sys2Proof.Machine.execPoll t s
  | .replyWindowClose t => Sys2Proof.Machine.execReplyWindowClose t s
  | .idle t frame => Sys2Proof.Machine.execIdle t frame s
  | .recall t frame => Sys2Proof.Machine.execRecall t frame s
  | .raiseStart t frame => Sys2Proof.Machine.execRaiseStart t frame s
  | .lowerStart t frame => Sys2Proof.Machine.execLowerStart t frame s
  | .holdStop t frame => Sys2Proof.Machine.execHoldStop t frame s
  | .off t frame => Sys2Proof.Machine.execOff t frame s
  | .commandWrite t csFell frame => Sys2Proof.Machine.execCommandWrite t csFell frame s
  | .responseRead t csFell clocked => Sys2Proof.Machine.execResponseRead t csFell clocked s
  | .transactionIgnored t csFell bytes => Sys2Proof.Machine.execTransactionIgnored t csFell bytes s
  | .unknownCommand t => Sys2Proof.Machine.execUnknownCommand t s
  | .configureLines t => Sys2Proof.Machine.execConfigureLines t s
  | .readLine t => Sys2Proof.Machine.execReadLine t s
  | .defineLoad t => Sys2Proof.Machine.execDefineLoad t s
  | .enableLoad t => Sys2Proof.Machine.execEnableLoad t s
  | .disableLoad t => Sys2Proof.Machine.execDisableLoad t s
  | .releaseLoad t => Sys2Proof.Machine.execReleaseLoad t s
  | .setLevel t => Sys2Proof.Machine.execSetLevel t s
  | .setLock t => Sys2Proof.Machine.execSetLock t s
  | .clearFault t => Sys2Proof.Machine.execClearFault t s
  | .readLoad t => Sys2Proof.Machine.execReadLoad t s
  | .stageLoad t => Sys2Proof.Machine.execStageLoad t s
  | .discardStaged t => Sys2Proof.Machine.execDiscardStaged t s
  | .commit t => Sys2Proof.Machine.execCommit t s
  | .readCommit t => Sys2Proof.Machine.execReadCommit t s
  | .writeScene t => Sys2Proof.Machine.execWriteScene t s
  | .deleteScene t => Sys2Proof.Machine.execDeleteScene t s
  | .readScene t => Sys2Proof.Machine.execReadScene t s
  | .recallScene t => Sys2Proof.Machine.execRecallScene t s
  | .readPool t => Sys2Proof.Machine.execReadPool t s
  | .configureLink t => Sys2Proof.Machine.execConfigureLink t s
  | .enrollStation t => Sys2Proof.Machine.execEnrollStation t s
  | .removeStation t => Sys2Proof.Machine.execRemoveStation t s
  | .readStation t => Sys2Proof.Machine.execReadStation t s
  | .readSummary t => Sys2Proof.Machine.execReadSummary t s
  | .readEvents t => Sys2Proof.Machine.execReadEvents t s
  | .setEventMask t => Sys2Proof.Machine.execSetEventMask t s
  | .allOff t => Sys2Proof.Machine.execAllOff t s
  | .identify t => Sys2Proof.Machine.execIdentify t s
  | .restart t => Sys2Proof.Machine.execRestart t s
  | .frameNotIntact t => Sys2Proof.Machine.execFrameNotIntact t s
  | .replyNotValid t frame => Sys2Proof.Machine.execReplyNotValid t frame s

end Sys2Proof.Machine
end

