-- ==== Sys2Proof/Machine/Step.lean ====
section
/-!
DEFINITION. One step: the command at the front of the queue is taken.
-/

namespace Sys2Proof.Machine

/-- Take the command at the front of the queue and execute it on the part with the queue's rest. On an
empty queue the part idles (DESIGN CHOICE, log 1; safe). -/
def step (s : State) : Host.Outcome State Fault Refusal :=
  match s.pending with
  | [] => .next s
  | c :: rest => exec c { s with pending := rest }

/-- Put the command that a word spells at the front of the queue. -/
def State.withFetchWord (s : State) (nbits w : Nat) : State :=
  match decodeTableWord nbits w with
  | none => s
  | some c => { s with pending := c :: s.pending }

end Sys2Proof.Machine
end

