-- ==== Sys2Proof/Safety.lean ====
section
/-!
DEFINITION. What counts as a sound state of the part: the invariants the spec states, block by block, in
the terms the claims use. Every one of them speaks of one state; that a step keeps them is stated in
Certificates/Slice0/Obligations.lean.
-/

namespace Sys2Proof.Machine

/-! ### Load records -/

/-- What a configuration in force bounds in its record: it is valid (R3), the counts stay below its limit
(R92), and they are 0 while sensing is off (R2). -/
def LoadConfig.bounds (c : LoadConfig) (r : Record) : Prop :=
  c.valid = true ∧ r.missCount < c.missLimit ∧ r.stuckCount < c.missLimit ∧
  (c.senseEnable = false → r.missCount = 0 ∧ r.stuckCount = 0)

/-- A ramp is present exactly while an ACTIVE load is off its target (R47). -/
def Record.rampOk (r : Record) : Prop :=
  match r.ramp with
  | none => r.currentLevel = r.targetLevel
  | some x => r.currentLevel ≠ r.targetLevel ∧ 1 ≤ x.remaining ∧ x.remaining ≤ Config.maxSteps

/-- The configuration is there exactly outside VACANT (R1), within its bounds. -/
def Record.configOk (r : Record) : Prop :=
  match r.config with
  | none => r = .vacant
  | some c => r.state ≠ .vacant ∧ c.bounds r

/-- A staged copy has passed R3 (R106). -/
def Record.stagedOk (r : Record) : Prop :=
  match r.staged with
  | none => True
  | some c => c.valid = true ∧ r.state ≠ .vacant

/-- A load record keeps the rules of chapter 1 to 3, 5 and 6 about one record: R1, R3, R5, R7, R8, R47,
R92, R106. -/
def Record.Ok (r : Record) : Prop :=
  r.configOk ∧ r.stagedOk ∧ r.rampOk ∧
  r.currentLevel ≤ 1000 ∧ r.targetLevel ≤ 1000 ∧
  (r.state ≠ .active → r.currentLevel = 0 ∧ r.targetLevel = 0) ∧
  (r.faultCause.isSome = true ↔ r.state = .faulted) ∧
  (r.state = .faulted → r.missCount = 0 ∧ r.stuckCount = 0) ∧
  r.burstAccumulator ≤ 999 ∧ r.skipCount ≤ Config.saturation

def State.RecordsOk (s : State) : Prop := ∀ n, (s.load n).Ok

/-! ### Scene store -/

/-- A defined scene: fade, 1 to 24 entries in ascending load index, levels in range (R122, R123). -/
def Scene.Ok (c : Scene) : Prop :=
  c.fade ≤ 6000 ∧ 1 ≤ c.entries.length ∧ c.entries.length ≤ Config.maxEntries ∧
  (c.entries.map (·.load)).Pairwise (· < ·) ∧ ∀ e ∈ c.entries, e.level ≤ 1000

/-- Pool entries held by all scenes together. -/
def SceneStore.held (x : SceneStore) : Nat :=
  ((List.finRange 32).map fun n => heldEntries (x.scenes.get n)).sum

/-- Free entries and held entries make 192 (R124). -/
def State.PoolOk (s : State) : Prop := s.scenes.free + s.scenes.held = Config.poolSize

def State.ScenesOk (s : State) : Prop := ∀ n, ∀ c ∈ s.scenes.scenes.get n, Scene.Ok c

/-! ### Line trackers -/

/-- The ranges of the line configuration (Table 2-2, R29). -/
def LineConfig.Ok (c : LineConfig) : Prop :=
  300 ≤ c.frontGuard ∧ c.frontGuard ≤ 2000 ∧ 200 ≤ c.backGuard ∧ c.backGuard ≤ 2000 ∧
  c.frontGuard + c.backGuard ≤ 4000 ∧
  Config.minHalfPeriod ≤ c.nominalHalfPeriod ∧ c.nominalHalfPeriod ≤ Config.maxHalfPeriod

/-- The ranges of what a tracked line holds (Table 2-1). -/
def Track.Ok (k : Track) : Prop :=
  Config.minHalfPeriod ≤ k.p ∧ k.p ≤ Config.maxHalfPeriod ∧
  300 ≤ k.frontGuard ∧ k.frontGuard ≤ 2000 ∧ 200 ≤ k.backGuard ∧ k.backGuard ≤ 2000 ∧
  k.frontGuard + k.backGuard ≤ 4000

/-- The ranges of Table 2-1 in each lock state (R27). -/
def Lock.Ok : Lock → Prop
  | .off => True
  | .absent => True
  | .acquiring _ spacings => spacings.length < Config.spacingsToLock ∧
      ∀ x ∈ spacings, Config.minHalfPeriod ≤ x ∧ x ≤ Config.maxHalfPeriod
  | .locked k => k.Ok
  | .holdover k n => k.Ok ∧ 1 ≤ n ∧ n ≤ Config.maxSynthetic

/-- OFF exactly while disabled, every field in its range (R27, Table 2-1, Table 2-2). -/
def State.TrackersOk (s : State) : Prop :=
  s.lineConfig.Ok ∧ ∀ l, (s.trackers.get l).lock.Ok ∧ (s.trackers.get l).noiseCount ≤ Config.saturation ∧
    ((s.trackers.get l).lock = .off ↔ s.lineConfig.enable.get l = false)

/-! ### Gate drive -/

/-- At most six slots are occupied (R76). -/
def State.SlotsOk (s : State) : Prop := s.firing.slots.length ≤ Config.slotCount

/-- The waiting list is ordered by due time, then by ascending load index (R77). -/
def State.WaitingOk (s : State) : Prop :=
  s.firing.waiting.Pairwise fun x y => x.due < y.due ∨ (x.due = y.due ∧ x.load ≤ y.load)

/-- Load `n` may be driven from line `l`: ACTIVE, configured on it, and the line tracked (R82). -/
def State.Drives (s : State) (n : LoadIx) (l : Line) : Prop :=
  (s.load n).isActive = true ∧ (s.load n).onLine l = true ∧ s.tracks l = true

/-- A firing-list entry of line `l` is of a load that may be driven from it. -/
def State.EntryOk (s : State) (l : Line) : FiringEntry → Prop
  | .pulse e => s.Drives e.load l ∧ e.line = l
  | .held e => s.Drives e.load l

/-- Whatever holds a slot, waits, is listed or is driven belongs to a load that may be driven; in inhibit
and while RST is low no load is ACTIVE; and inhibit is the level of ALLOFF (R82, R85, R86, R90, R91). -/
def State.FiringOk (s : State) : Prop :=
  (∀ x ∈ s.firing.slots, s.Drives x.load x.line) ∧
  (∀ e ∈ s.firing.waiting, s.Drives e.load e.line) ∧
  (∀ l, ∀ e ∈ s.firing.lists.get l, s.EntryOk l e) ∧
  (∀ h ∈ s.firing.held, ∃ l, s.Drives h.load l) ∧
  (s.firing.inhibit = true → ∀ n, (s.load n).isActive = false) ∧
  (s.rstLow = true → ∀ n, (s.load n).isActive = false) ∧
  (s.rstLow = false → s.firing.inhibit = s.allOff)

/-! ### Conduction Monitor -/

/-- Every load of an untaken quiet sample is ACTIVE or DEFINED, on the line and sensed (R98, R103, R104). -/
def State.SamplesOk (s : State) : Prop :=
  ∀ l, ∀ q ∈ s.monitor.quiet.get l, ∀ n, hasLoad q.loads n = true →
    ((s.load n).state = .active ∨ (s.load n).state = .defined) ∧
    (s.load n).onLine l = true ∧ (s.load n).sensed = true

/-! ### Commit unit -/

/-- A waiting member holds a copy, is not VACANT, and waits for the tracked line of its configuration in
force (R109, R121). -/
def State.MemberOk (s : State) (m : Member) : Prop :=
  (s.load m.load).staged.isSome = true ∧ (s.load m.load).state ≠ .vacant ∧
  (s.load m.load).onLine m.line = true ∧ s.tracks m.line = true

/-- IDLE exactly with an empty set; members ascending, each one waiting as R109 says (R109, R121). -/
def State.CommitOk (s : State) : Prop :=
  (s.commit.state = .idle ↔ s.commit.members = []) ∧
  (s.commit.members.map (·.load)).Pairwise (· < ·) ∧ ∀ m ∈ s.commit.members, s.MemberOk m

/-! ### Station link -/

/-- The ranges of the link configuration (Table 8-2). -/
def StationLink.SettingsOk (k : StationLink) : Prop :=
  1 ≤ k.holdStep ∧ k.holdStep ≤ 50 ∧ 200 ≤ k.holdExpiry ∧ k.holdExpiry ≤ 5000 ∧ k.offFade ≤ 6000

/-- A slot as R138 and Table 8-3 have it. -/
def StationSlot.Ok (x : StationSlot) : Prop :=
  match x.station with
  | none => x = .vacated
  | some e => x.state ≠ .empty ∧ 1 ≤ e.address ∧ e.address ≤ 31 ∧
      x.failCount < Config.failsToOffline ∧
      (x.state ≠ .online → x.failCount = 0 ∧ x.hold = none)

/-- No two slots in use hold the same address (R138). -/
def StationLink.AddressesOk (k : StationLink) : Prop :=
  ∀ i j, i ≠ j → ∀ e ∈ (k.slots.get i).station, ∀ f ∈ (k.slots.get j).station, e.address ≠ f.address

/-- An undiscarded poll in flight is of a slot in use at the polled address (R140, R147). -/
def StationLink.PollOk (k : StationLink) : Prop :=
  ∀ q ∈ k.poll, q.discard = none → ((k.slots.get q.slot).station.map (·.address)) = some q.address

/-- The slot chosen for the next Poll frame is as it was when it was chosen; and with the link on, no poll
in flight and a slot in use, a slot is chosen (R146). -/
def StationLink.ChoiceOk (k : StationLink) : Prop :=
  (∀ c ∈ k.chosen, k.enable = true ∧ (k.slots.get c.slot).state = c.expects) ∧
  (k.enable = true → k.poll = none → (∃ i, (k.slots.get i).state ≠ .empty) → k.chosen.isSome = true)

def State.LinkOk (s : State) : Prop :=
  s.link.SettingsOk ∧ (∀ i, (s.slot i).Ok) ∧ s.link.AddressesOk ∧ s.link.PollOk ∧ s.link.ChoiceOk

/-- A ramp with origin HOLD(i) exists only while slot i holds a hold (R64). -/
def State.HoldsOk (s : State) : Prop :=
  ∀ n, ∀ x ∈ (s.load n).ramp, ∀ i, x.origin = .hold i → (s.slot i).hold.isSome = true

/-! ### Terms the claims about commands use -/

/-- RST is high and the Command Unit is executing an intact frame with this code and payload. -/
def State.Executing (s : State) (code : Byte) (payload : List Byte) : Prop :=
  s.rstLow = false ∧ ∃ f, s.port.unit = .executing f ∧ parseFrame f = some ⟨code, payload⟩

/-- From `s` to `u` the Command Unit has built a response: it is held, the two marks are copied into it
and cleared, and ATTENTION is the ATTN condition of `u` (R166, R169 to R171). -/
def State.Answers (s u : State) (status : Status) (payload : List Byte) : Prop :=
  u.port = { s.port with
    unit := .responseReady ⟨status, s.port.overrun, s.port.lostResponse, u.attn, payload⟩
    overrun := false
    lostResponse := false }

/-- The execution commands, with the code of the frame each of them executes (Table 11-3). -/
def executions (t : Nat) : List (Byte × Instr) :=
  [ (0x10#8, .configureLines t), (0x11#8, .readLine t), (0x20#8, .defineLoad t), (0x21#8, .enableLoad t),
    (0x22#8, .disableLoad t), (0x23#8, .releaseLoad t), (0x24#8, .setLevel t), (0x25#8, .setLock t),
    (0x26#8, .clearFault t), (0x27#8, .readLoad t), (0x30#8, .stageLoad t), (0x31#8, .discardStaged t),
    (0x32#8, .commit t), (0x33#8, .readCommit t), (0x40#8, .writeScene t), (0x41#8, .deleteScene t),
    (0x42#8, .readScene t), (0x43#8, .recallScene t), (0x44#8, .readPool t), (0x50#8, .configureLink t),
    (0x51#8, .enrollStation t), (0x52#8, .removeStation t), (0x53#8, .readStation t),
    (0x60#8, .readSummary t), (0x61#8, .readEvents t), (0x62#8, .setEventMask t), (0x70#8, .allOff t),
    (0x7E#8, .identify t), (0x7F#8, .restart t) ]

/-- A refused command: `status` without a payload, and nothing changed but the Command Unit (R167). -/
def State.Refuses (s u : State) (t : Nat) (status : Status) : Prop :=
  s.Answers u status [] ∧ u = { s with now := max s.now t, port := u.port }

/-- A command that reports `payload` and changes nothing but the Command Unit. -/
def State.Reports (s u : State) (t : Nat) (payload : List Byte) : Prop :=
  s.Answers u .ok payload ∧ u = { s with now := max s.now t, port := u.port }

/-- A command that gives load `n` the record `r` and changes nothing else but the Command Unit. -/
def State.SetsRecord (s u : State) (t : Nat) (n : LoadIx) (r : Record) : Prop :=
  u.load n = r ∧ (∀ m, m ≠ n → u.load m = s.load m) ∧ s.Answers u .ok [] ∧
  u = { s with now := max s.now t, loads := u.loads, port := u.port }

/-- Load `n` has no gate activity left: its gate is low, it waits for no slot, it is on no firing list
and it has no pending check (R15). -/
def State.NoGateActivity (u : State) (n : LoadIx) : Prop :=
  u.gate n = false ∧ (∀ e ∈ u.firing.waiting, e.load ≠ n) ∧
  (∀ l, ∀ e ∈ u.firing.lists.get l, e.load ≠ n) ∧ ∀ c ∈ u.monitor.checks, c.load ≠ n

/-- From `s` to `u` the loads of `p`, and no others, have left the untaken quiet sample of line `l`, which
is otherwise as it was. -/
def State.LeaveSample (s u : State) (l : Line) (p : LoadIx → Prop) : Prop :=
  (s.monitor.quiet.get l = none → u.monitor.quiet.get l = none) ∧
  ∀ q, s.monitor.quiet.get l = some q → ∃ loads, u.monitor.quiet.get l = some ⟨q.time, loads⟩ ∧
    ∀ n, hasLoad loads n = true ↔ hasLoad q.loads n = true ∧ ¬ p n

/-- From `s` to `u` load `n` is faulted with `cause`: no gate activity of it is left, it leaves every untaken
quiet sample, and no other load's record changes (R101, R103). -/
def State.Retires (s u : State) (n : LoadIx) (cause : FaultCause) : Prop :=
  u.load n = { s.load n with
    state := .faulted, currentLevel := 0, targetLevel := 0, ramp := none
    missCount := 0, stuckCount := 0, faultCause := some cause } ∧
  (∀ m, m ≠ n → u.load m = s.load m) ∧ u.NoGateActivity n ∧
  (∀ l, s.LeaveSample u l (· = n)) ∧
  (∀ m, hasLoad u.attention.fault m = true ↔ m = n ∨ hasLoad s.attention.fault m = true) ∧
  u.attention = { s.attention with fault := u.attention.fault } ∧
  u = { s with
    now := u.now, sense := u.sense, loads := u.loads, firing := u.firing, monitor := u.monitor
    attention := u.attention }

/-- The outcome of a level claim with a fade at half-period `p` on an ACTIVE record (R49, R52). -/
def Record.claimed (r : Record) (target fade p : Nat) (origin : Origin) : Record :=
  { r with
    targetLevel := target
    currentLevel := if fade = 0 then target else r.currentLevel
    ramp := if fade = 0 ∨ target = r.currentLevel then none
      else some ⟨max 1 (min 65535 ((fade * 10000 + p - 1) / p)), origin⟩ }

/-- The record after the stop of the holds of the slots of `p` (R64). -/
def Record.holdStopped (r : Record) (p : SlotIx → Prop) (v : Record) : Prop :=
  (∀ k i, r.ramp = some ⟨k, .hold i⟩ → p i → v = { r with targetLevel := r.currentLevel, ramp := none }) ∧
  ((∀ k i, r.ramp = some ⟨k, .hold i⟩ → ¬ p i) → v = r)

/-- The one-time actions of R85 from `s` to `u`: gates, lists, waiting list and checks emptied, ACTIVE
loads DEFINED at level 0, every other record kept, every hold removed. -/
def State.TakenOff (s u : State) : Prop :=
  (∀ n, u.gate n = false) ∧ u.firing = Firing.reset u.firing.inhibit ∧
  u.monitor = { s.monitor with checks := [] } ∧
  (∀ n, u.load n = if (s.load n).state = .active then
      { s.load n with state := .defined, currentLevel := 0, targetLevel := 0, ramp := none }
    else s.load n) ∧
  u.link = { s.link with slots := u.link.slots } ∧ ∀ i, u.slot i = { s.slot i with hold := none }

/-- From `s` to `u` the trains of the loads of `p`, and no others, are abandoned with one skip each: the
count holds at 255 and the loads join the SKIP detail (R69, R75, R80). -/
def State.Skips (s u : State) (p : LoadIx → Prop) : Prop :=
  (∀ n, p n → u.load n = { s.load n with skipCount := min 255 ((s.load n).skipCount + 1) }) ∧
  (∀ n, ¬ p n → u.load n = s.load n) ∧
  (∀ n, hasLoad u.attention.skip n = true ↔ p n ∨ hasLoad s.attention.skip n = true) ∧
  u.attention = { s.attention with skip := u.attention.skip }

/-- A spacing that R33 judges good after the spacings of the run. -/
def GoodSpacing (run : List Nat) (d : Nat) : Prop :=
  7000 ≤ d ∧ d ≤ 11500 ∧ ∀ x ∈ run.getLast?, d ≤ x + 200 ∧ x ≤ d + 200

/-- ONLINE and above the round position (R146, step 1). -/
def StationLink.Ahead (k : StationLink) (i : SlotIx) : Prop :=
  (k.slots.get i).state = .online ∧ ∀ j ∈ k.roundPosition, j < i

/-- How far slot `i` is from the slot after the rotation pointer, going upward and wrapping from 7 to 0
(R146, step 2). -/
def StationLink.turns (k : StationLink) (i : SlotIx) : Nat := (i.val + 7 - k.pointer.val) % 8

/-- The choice that steps 1 and 2 of R146 give in the current round. -/
def StationLink.Picks (k : StationLink) : Choice → Prop
  | .online i => k.rediscovered = false ∧ k.Ahead i ∧ ∀ j, j < i → ¬ k.Ahead j
  | .rediscovery i => k.rediscovered = false ∧ (∀ j, ¬ k.Ahead j) ∧ (k.slots.get i).state = .offline ∧
      ∀ j, (k.slots.get j).state = .offline → k.turns i ≤ k.turns j

/-- From `k` the choice of R146 leads to `v`: the pick of the round, or else of a new round begun at once;
with every slot EMPTY the round ends and nothing is chosen; and nothing is with the link off. -/
def StationLink.Chooses (k v : StationLink) : Prop :=
  let fresh : StationLink := { k with roundPosition := none, rediscovered := false }
  (k.enable = false → v = { k with chosen := none }) ∧
  (k.enable = true → (∀ i, (k.slots.get i).state = .empty) → v = { fresh with chosen := none }) ∧
  (k.enable = true → (∃ i, (k.slots.get i).state ≠ .empty) → ∃ c,
    (k.Picks c ∧ v = { k with chosen := some c }) ∨
    ((∀ d, ¬ k.Picks d) ∧ fresh.Picks c ∧ v = { fresh with chosen := some c }))

/-- A reply window is open and listening on a poll that is not marked for discard, with RST high; the
polled slot is in use. -/
def State.Awaits (s : State) (t : Nat) (q : Poll) : Prop :=
  s.rstLow = false ∧ s.link.poll = some q ∧ q.discard = none ∧ q.answered = false ∧
  q.windowOpen ≤ max s.now t ∧ max s.now t ≤ q.windowEnd ∧ (s.slot q.slot).state ≠ .empty

/-- From `s` to `u` a valid Reply has ended the poll `q`: the polled slot is `x`, the other slots are
kept, the STATION detail gains online if the slot was OFFLINE and then what `report` adds, the next slot is
chosen from the table so changed, and nothing changes but this and the load records (R145 to R147). -/
def State.Serves (s u : State) (t : Nat) (q : Poll) (x : StationSlot)
    (report : StationDetail → StationDetail) : Prop :=
  u.slot q.slot = x ∧ (∀ j, j ≠ q.slot → u.slot j = s.slot j) ∧
  u.attention = s.attention.reportStation q.slot (fun d =>
    report (if (s.slot q.slot).state = .offline then { d with online := true } else d)) ∧
  StationLink.Chooses { s.link with
    poll := none, nextPollAt := max s.now t + 200, slots := u.link.slots } u.link ∧
  u = { s with now := max s.now t, loads := u.loads, link := u.link, attention := u.attention }

/-- The slot after a request with sequence bit `b` that is new, answered with `result` (R147, R149). -/
def StationSlot.judged (x : StationSlot) (b : Bool) (result : LastResult) : StationSlot :=
  { x with state := .online, failCount := 0, lastSeq := some b, lastResult := result }

/-- The event classes with their numbers (Table 10-2, R184). -/
def classNumbers : List (EventClass × Nat) :=
  [(.safety, 1), (.line, 2), (.fault, 3), (.skip, 4), (.commit, 5), (.station, 6)]

/-- The class is pending: a flag of its detail is set, a load is in its set, its record is there (R176). -/
def Attention.Pends (a : Attention) : EventClass → Prop
  | .safety => a.safety.restarted = true ∨ a.safety.allOffAsserted = true ∨
      a.safety.allOffReleased = true ∨ a.safety.allOffCommand = true
  | .line => ∃ l, (a.line.get l).lost = true ∨ (a.line.get l).locked = true ∨
      (a.line.get l).holdoverEntered = true
  | .fault => ∃ n, hasLoad a.fault n = true
  | .skip => ∃ n, hasLoad a.skip n = true
  | .commit => a.commit.isSome = true
  | .station => ∃ i, (a.station.get i).online = true ∨ (a.station.get i).offline = true ∨
      (a.station.get i).refused = true ∨ (a.station.get i).holdExpired = true

/-- Eligible for a request on zone `z`, with configuration `c` (R152). -/
def Record.Reached (r : Record) (c : LoadConfig) (z : Zone) : Prop :=
  r.config = some c ∧ r.state = .active ∧ c.zones.getLsbD z.val = true ∧ r.stationLock = false

/-- A command frame as the system controller sends it after the kind byte (R164, R185). -/
def commandFrame (code : Byte) (payload : List Byte) : List Byte :=
  let body := 0x3C#8 :: code :: byte payload.length :: payload
  body ++ [crc8 body]

/-- The sequence bit of a request; IDLE has none that is read (R149). -/
def Request.seq : Request → Option Bool
  | .idle => none
  | .recall _ b => some b
  | .raiseStart _ b => some b
  | .lowerStart _ b => some b
  | .holdStop _ b => some b
  | .off _ b => some b

/-- Kind and argument bytes of a request (R188). -/
def Request.wire : Request → Nat × List Byte
  | .idle => (0, [])
  | .recall n _ => (1, [byte n.val])
  | .raiseStart z _ => (2, [byte z.val])
  | .lowerStart z _ => (3, [byte z.val])
  | .holdStop z _ => (4, [byte z.val])
  | .off z _ => (5, [byte z.val])

/-- A Reply frame from the station at `address` with bit 7 of its request byte at `b` (R188). -/
def replyFrame (address : Nat) (b : Bool) (r : Request) : List Byte :=
  let body := [0x69#8, byte address, byte (r.wire.1 + 128 * b.toNat)] ++ r.wire.2
  body ++ [crc8 body]

/-! ### The whole part -/

/-- Every invariant of the part. -/
structure State.Inv (s : State) : Prop where
  records : s.RecordsOk
  pool : s.PoolOk
  scenes : s.ScenesOk
  trackers : s.TrackersOk
  slots : s.SlotsOk
  waiting : s.WaitingOk
  firing : s.FiringOk
  samples : s.SamplesOk
  commit : s.CommitOk
  link : s.LinkOk
  holds : s.HoldsOk

end Sys2Proof.Machine
end

