-- ==== Sys2Proof/Certificates/Slice0/Obligations.lean ====
section
/-!
DEFINITION. The statements for the provers. In each of them `t` is the instant of the command, which is
taken at `max s.now t` (DESIGN CHOICE, log 2), and `u` is the next state; `u = { s with … }` says that
every field not named there is untouched.
-/

open Sys2Proof Sys2Proof.Machine

/-! ### The step -/

/-- The command at the front of the queue is executed on the part with the queue's rest. -/
def Obligations.StepTakesFrontOfQueue : Prop :=
  ∀ (s : State) (c : Instr) (rest : List Instr),
    step { s with pending := c :: rest } = exec c { s with pending := rest }

/-- No command faults or is refused, one that the state does not call for included (DESIGN CHOICE, log 26, 3
and 8); none touches the queue (log 1), and but for power-on reset none takes the timebase back (log 2
and 5). The refusals of the spec are next states (R101, R150, R167). -/
def Obligations.EveryCommandAnswersNext : Prop :=
  ∀ (c : Instr) (s : State), ∃ u, exec c s = .next u ∧ u.pending = s.pending ∧
    (c ≠ .powerOnReset → s.now ≤ u.now)

/-- The state after power-on reset has every invariant. -/
def Obligations.ResetSatisfiesInvariants : Prop := State.reset.Inv

/-! ### Invariants every step keeps -/

/-- At most six slots are ever occupied (R76), and the waiting list stays in order of due time and then of
load index (R77). -/
def Obligations.StepKeepsSlotBound : Prop :=
  (∀ s u : State, s.SlotsOk → step s = .next u → u.SlotsOk) ∧
  ∀ s u : State, s.WaitingOk → step s = .next u → u.WaitingOk

/-- Scenes stay well-formed (R122, R123), and free and held pool entries always make 192 (R124). -/
def Obligations.StepKeepsScenePool : Prop :=
  ∀ s u : State, s.PoolOk → s.ScenesOk → step s = .next u → u.PoolOk ∧ u.ScenesOk

/-- Every load record keeps the rules about one record: configuration (R1, R3), levels (R5), ramp (R47),
counts (R7, R92), fault cause (R8), staged copy (R106). Every load of an untaken quiet sample stays ACTIVE
or DEFINED, on its line and sensed: a load released, faulted, with sensing turned off (R18, R103, R104) or
moved off the line (log 29) has left it. -/
def Obligations.StepKeepsRecords : Prop :=
  (∀ s u : State, s.RecordsOk → s.FiringOk → s.ScenesOk → s.LinkOk → step s = .next u → u.RecordsOk) ∧
  ∀ s u : State, s.SamplesOk → step s = .next u → u.SamplesOk

/-- Every tracker stays in a lock state with its fields in range, and is OFF exactly while disabled
(R27, Tables 2-1 and 2-2). -/
def Obligations.StepKeepsTrackers : Prop :=
  ∀ s u : State, s.TrackersOk → step s = .next u → u.TrackersOk

/-- Whatever is driven, waits for a slot or is listed stays of a load that is ACTIVE on a tracked line,
and no load is ACTIVE in inhibit or while RST is low (R82, R86, R90). -/
def Obligations.StepKeepsFiringSafe : Prop :=
  ∀ s u : State, s.FiringOk → s.TrackersOk → step s = .next u → u.FiringOk

/-- The commit set is empty exactly in IDLE, and every member holds a copy and waits for the tracked line
of its configuration in force (R109, R121). -/
def Obligations.StepKeepsCommitSet : Prop :=
  ∀ s u : State, s.CommitOk → s.RecordsOk → s.TrackersOk → step s = .next u → u.CommitOk

/-- The station table keeps the rules of R138, with the link on and no poll in flight a slot in use is
chosen for the next Poll frame (R146; a removed choice is made anew, log 14), and a ramp with origin HOLD(s)
exists only while slot s holds a hold (R64). -/
def Obligations.StepKeepsStationTable : Prop :=
  ∀ s u : State, s.LinkOk → s.HoldsOk → step s = .next u → u.LinkOk ∧ u.HoldsOk

/-- A gate is high only while its load is ACTIVE, the load's line is tracked and ALLOFF is released
(R82). -/
def Obligations.HighGateIsDrivable : Prop :=
  ∀ (s : State) (n : LoadIx), s.FiringOk → s.gate n = true →
    s.allOff = false ∧ s.firing.inhibit = false ∧ s.rstLow = false ∧ ∃ l, s.Drives n l

/-! ### Frames (chapter 11) -/

/-- The check value of the CRC-8 over the ASCII bytes of 123456789 is 0xF4 (R184); and a frame is intact
exactly when it is the image of a code and a payload of at most 128 bytes, whatever follows the CRC byte
(R164, R185). -/
def Obligations.IntactFrameIsFrameImage : Prop :=
  (crc8 [0x31#8, 0x32#8, 0x33#8, 0x34#8, 0x35#8, 0x36#8, 0x37#8, 0x38#8, 0x39#8] = 0xF4#8) ∧
  ∀ (f : List Byte) (code : Byte) (p : List Byte),
    parseFrame f = some ⟨code, p⟩ ↔ p.length ≤ 128 ∧ ∃ tail, f = commandFrame code p ++ tail

/-- A Reply is valid at a polled address exactly when it is the image of a request from that address
(R144, R188); the sequence bit of an IDLE is not read (R149). -/
def Obligations.ValidReplyIsReplyImage : Prop :=
  ∀ (a : Nat) (f : List Byte) (r : Request), 1 ≤ a → a ≤ 31 →
    (parseReply a f = some r ↔
      ∃ b tail, (∀ q ∈ r.seq, q = b) ∧ f = replyFrame a b r ++ tail)

/-! ### Resets and ALLOFF -/

/-- Power-on reset gives every block its reset values; as the reset ends SAFETY holds restarted and ALLOFF
is judged (R26, R46, R90, R91, R105, R119, R137, R162, R174, R183). The timebase at 0 is a DESIGN CHOICE
(log 5); the pins and the queue are the outside's. With RST low the part stays in reset (log 18). -/
def Obligations.PowerOnResetGivesResetState : Prop :=
  ∀ s : State, exec .powerOnReset s = .next { State.reset with
    rstLow := s.rstLow
    allOff := s.allOff
    zc := s.zc
    sense := s.sense
    pending := s.pending
    firing := Firing.reset (!s.rstLow && s.allOff)
    attention := if s.rstLow then Attention.cleared 0 else
      { Attention.cleared 0 with safety := ⟨true, s.allOff, false, false⟩ } }

/-- As RST goes low every block takes its reset values, with every gate, ATTN and LDE low (R26, R46, R90,
R105, R119, R137, R162, R174, R183). While RST is low they are held: no command but the end of the reset and
POWER_ON_RESET changes more than the timebase and the levels of ALLOFF and of the zero-cross inputs (R28,
R84, R91, R144, R174). As RST returns high SAFETY gains restarted, ALLOFF is judged, and transactions are
taken from then on (R91, R174, R183; the instant `openSince` is log 9). -/
def Obligations.PinResetHoldsThenEnds : Prop :=
  (∀ (s : State) (t : Nat), s.rstLow = false → ∃ u, exec (.pinReset t) s = .next u ∧
    u = { State.reset with
      now := max s.now t
      rstLow := true
      allOff := s.allOff
      zc := s.zc
      sense := s.sense
      pending := s.pending
      port := CommandUnit.reset (max s.now t)
      attention := Attention.cleared 0 } ∧
    (∀ n, u.gate n = false) ∧ u.attn = false ∧ u.lde = false) ∧
  (∀ (s : State) (c : Instr), s.rstLow = true → c ≠ .powerOnReset → (∀ t, c ≠ .pinResetEnd t) →
    ∃ now level zc, exec c s = .next { s with now := now, allOff := level, zc := zc } ∧ s.now ≤ now ∧
      (level = s.allOff ∨ ∃ t, (c = .alloffAssertion t ∧ level = true) ∨
        (c = .alloffRelease t ∧ level = false)) ∧
      (zc = s.zc ∨ ∃ t l high, c = .zeroCrossEdge t l high ∧ zc = s.zc.set l high)) ∧
  ∀ (s : State) (t : Nat), s.rstLow = true → ∃ u, exec (.pinResetEnd t) s = .next u ∧
    u = { s with
      now := max s.now t
      rstLow := false
      firing := { s.firing with inhibit := s.allOff }
      port := { s.port with openSince := max s.now t }
      attention := { Attention.cleared s.attention.mask with safety := ⟨true, s.allOff, false, false⟩ } } ∧
    (s.attention.isMasked .safety = false → u.attn = true)

/-- An assertion of ALLOFF makes the all-off actions, enters inhibit and raises all_off_asserted (R85). -/
def Obligations.AlloffAssertionTakesLoadsOff : Prop :=
  ∀ (s : State) (t : Nat), s.RecordsOk → s.rstLow = false → s.allOff = false →
    ∃ u, exec (.alloffAssertion t) s = .next u ∧ s.TakenOff u ∧ u.firing.inhibit = true ∧
      u = { s with
        now := max s.now t
        allOff := true
        loads := u.loads
        firing := u.firing
        monitor := u.monitor
        link := u.link
        attention := { s.attention with safety := { s.attention.safety with allOffAsserted := true } } }

/-- A release of ALLOFF ends inhibit, raises all_off_released and restores nothing (R87). -/
def Obligations.AlloffReleaseRestoresNothing : Prop :=
  ∀ (s : State) (t : Nat), s.rstLow = false → s.allOff = true →
    exec (.alloffRelease t) s = .next { s with
      now := max s.now t
      allOff := false
      firing := { s.firing with inhibit := false }
      attention := { s.attention with safety := { s.attention.safety with allOffReleased := true } } }

/-! ### Line tracking

In these statements a ZERO_CROSS_EDGE is an edge whatever level its input held before (DESIGN CHOICE, log
28). -/

/-- Acquisition: the first edge is the reference; each further edge gives a spacing that is appended where
it is good and empties the list where it is bad; 25 ms without an edge end it; and none of these counts
noise or announces a boundary (R32, R33). -/
def Obligations.AcquisitionJudgesEachSpacing : Prop :=
  ∀ (s : State) (t : Nat) (l : Line), s.rstLow = false →
    let x := s.trackers.get l
    let now := max s.now t
    (∀ level, x.lock = .absent → exec (.zeroCrossEdge t l level) s = .next { s with
      now := now, zc := s.zc.set l level
      trackers := s.trackers.set l { x with lock := .acquiring now [] } }) ∧
    (∀ level last run, x.lock = .acquiring last run → ¬ GoodSpacing run (now - last) →
      exec (.zeroCrossEdge t l level) s = .next { s with
        now := now, zc := s.zc.set l level
        trackers := s.trackers.set l { x with lock := .acquiring now [] } }) ∧
    (∀ level last run, x.lock = .acquiring last run → GoodSpacing run (now - last) → run.length < 2 →
      exec (.zeroCrossEdge t l level) s = .next { s with
        now := now, zc := s.zc.set l level
        trackers := s.trackers.set l { x with lock := .acquiring now (run ++ [now - last]) } }) ∧
    ∀ last run, x.lock = .acquiring last run → last + 25000 ≤ now →
      exec (.acquisitionTimeout t l) s = .next { s with
        now := now, trackers := s.trackers.set l { x with lock := .absent } }

/-- The third good spacing locks the tracker: P is the mean of the three spacings, the counter is 0, the
guards are taken from the line configuration, LINE gains locked, and the edge is announced as a declared
boundary (R34). -/
def Obligations.ThirdGoodSpacingLocks : Prop :=
  ∀ (s : State) (t : Nat) (l : Line) (level : Bool) (last a b : Nat), s.rstLow = false →
    (s.trackers.get l).lock = .acquiring last [a, b] → GoodSpacing [a, b] (max s.now t - last) →
    let now := max s.now t
    let p := (a + b + (now - last)) / 3
    let c := s.lineConfig
    exec (.zeroCrossEdge t l level) s = .next (State.announce
      { s with
        now := now
        zc := s.zc.set l level
        trackers := s.trackers.set l { s.trackers.get l with
          lock := .locked ⟨p, now, .ofLevel level, c.frontGuard, c.backGuard⟩, counter := 0 }
        attention := s.attention.reportLine l fun d => { d with locked := true } }
      ⟨l, now, .ofLevel level, true, p, c.frontGuard, c.backGuard, 0⟩)

/-- An edge on a tracked line: before the acceptance window it counts as noise and changes nothing else
(R36); inside it is a declared boundary that keeps or regains LOCKED, with P smoothed by an eighth of the
difference in LOCKED and kept in HOLDOVER (R35, R38). -/
def Obligations.TrackedEdgeIsNoiseOrBoundary : Prop :=
  ∀ (s : State) (t : Nat) (l : Line) (level : Bool) (k : Track) (p : Nat), s.rstLow = false →
    let x := s.trackers.get l
    let now := max s.now t
    let spacing : Int := (now : Int) - k.lastBoundary
    let c := s.lineConfig
    ((x.lock = .locked k ∧
        (p : Int) = max 7000 (min 11500 ((k.p : Int) + (spacing - k.p).tdiv 8))) ∨
      ((∃ n, x.lock = .holdover k n) ∧ p = k.p)) →
    (now + 250 < k.lastBoundary + k.p → exec (.zeroCrossEdge t l level) s = .next { s with
      now := now
      zc := s.zc.set l level
      trackers := s.trackers.set l { x with noiseCount := min 255 (x.noiseCount + 1) } }) ∧
    (k.lastBoundary ≤ now → k.lastBoundary + k.p ≤ now + 250 → now ≤ k.lastBoundary + k.p + 250 →
      exec (.zeroCrossEdge t l level) s = .next (State.announce
        { s with
          now := now
          zc := s.zc.set l level
          trackers := s.trackers.set l { x with
            lock := .locked ⟨p, now, .ofLevel level, c.frontGuard, c.backGuard⟩
            counter := x.counter + 1 } }
        ⟨l, now, .ofLevel level, true, p, c.frontGuard, c.backGuard, x.counter + 1⟩))

/-- An acceptance window that closes empty gives a synthetic boundary at the predicted time with the
opposite polarity: from LOCKED with LINE holdover_entered (R37), and in HOLDOVER at count 1 or 2 (R39). -/
def Obligations.EmptyWindowGivesSyntheticBoundary : Prop :=
  ∀ (s : State) (t : Nat) (l : Line) (k : Track) (n : Nat), s.rstLow = false →
    let x := s.trackers.get l
    let now := max s.now t
    let c := s.lineConfig
    let b := k.lastBoundary + k.p
    let q : Polarity := if k.polarity = .pos then .neg else .pos
    ((x.lock = .locked k ∧ n = 1) ∨ (∃ m, x.lock = .holdover k m ∧ m < 3 ∧ n = m + 1)) →
    b + 250 ≤ now →
    exec (.acceptanceWindowClose t l) s = .next (State.announce
      { s with
        now := now
        trackers := s.trackers.set l { x with
          lock := .holdover ⟨k.p, b, q, c.frontGuard, c.backGuard⟩ n, counter := x.counter + 1 }
        attention := if x.lock = .locked k then
            s.attention.reportLine l fun d => { d with holdoverEntered := true }
          else s.attention }
      ⟨l, b, q, false, k.p, c.frontGuard, c.backGuard, x.counter + 1⟩)

/-- The fourth empty window in a row is a line loss: the tracker is ABSENT, LINE gains lost, no gate
activity of the line's loads is left and no skip is counted, the line's list and quiet sample are gone,
its members are applied, and the records keep state, levels and ramp (R39, R42). -/
def Obligations.FourthEmptyWindowLosesLine : Prop :=
  ∀ (s : State) (t : Nat) (l : Line) (k : Track), s.rstLow = false →
    (s.trackers.get l).lock = .holdover k 3 → k.lastBoundary + k.p + 250 ≤ max s.now t →
    ∃ u, exec (.acceptanceWindowClose t l) s = .next u ∧
      u.trackers = s.trackers.set l { s.trackers.get l with lock := .absent } ∧
      (∀ n, (s.load n).onLine l = true → u.NoGateActivity n) ∧
      (∀ e ∈ u.firing.waiting, e.line ≠ l) ∧ u.firing.lists.get l = [] ∧
      u.monitor.quiet.get l = none ∧ (∀ m ∈ u.commit.members, m.line ≠ l) ∧
      (∀ n, u.load n = if s.waitsOn l n then (s.load n).applyStaged else s.load n) ∧
      u.attention = { s.attention with
        line := s.attention.line.set l { s.attention.line.get l with lost := true }
        commit := u.attention.commit } ∧
      u = { s with
        now := max s.now t
        trackers := u.trackers
        loads := u.loads
        firing := u.firing
        monitor := u.monitor
        commit := u.commit
        attention := u.attention }

/-! ### The half-cycle boundary -/

/-- A boundary, on each record: waiting members are applied first, then the ramps of the ACTIVE loads of
the line take their step (R55, R57), and at a POS boundary its ACTIVE BURST loads take their decision from
the level after the step (R73). Nothing else of a record changes but skip_count. -/
def Obligations.BoundaryStepsLevelsAndBursts : Prop :=
  ∀ (s : State) (b : Boundary) (n : LoadIx),
    let r := if s.waitsOn b.line n then (s.load n).applyStaged else s.load n
    let v := (s.announce b).load n
    let sum := r.burstAccumulator + v.effective
    if r.state = .active ∧ r.onLine b.line = true then
      v = { r with
        currentLevel := match r.ramp with
          | none => r.currentLevel
          | some x => ((r.currentLevel : Int) +
              ((r.targetLevel : Int) - r.currentLevel).tdiv x.remaining).toNat
        ramp := match r.ramp with
          | none => none
          | some x => if x.remaining ≤ 1 then none else some { x with remaining := x.remaining - 1 }
        burstAccumulator :=
          if b.polarity = .pos ∧ r.inMode .burst = true then
            if 1000 ≤ sum then sum - 1000 else sum
          else r.burstAccumulator
        burstCycleOn :=
          if b.polarity = .pos ∧ r.inMode .burst = true then decide (1000 ≤ sum) else r.burstCycleOn
        skipCount := v.skipCount }
    else v = { r with skipCount := v.skipCount }

/-- The list a boundary builds: exactly the firings of R68 of the loads as the boundary leaves them, each
timed by the law of its mode (R70 to R74), in order of time and then of load index. -/
def Obligations.BoundaryListsEveryFiring : Prop :=
  ∀ (s : State) (b : Boundary),
    let u := s.announce b
    let open_ := b.time + b.frontGuard
    let h := b.p - b.frontGuard - b.backGuard
    (∀ e, e ∈ u.firing.lists.get b.line ↔ ∃ n c, (u.load n).state = .active ∧
      (u.load n).config = some c ∧ c.line = b.line ∧ 0 < (u.load n).effective ∧
      let pulse := fun due => FiringEntry.pulse
        ⟨n, b.line, due, 1, c.pulseWidth, c.pulseCount, b.time + b.p - b.backGuard - c.pulseWidth⟩
      ((c.mode = .phaseLead ∧
          e = pulse (open_ + (1000 - (u.load n).effective) * (h - c.trainDuration) / 1000)) ∨
        (c.mode = .phaseTrail ∧
          e = .held ⟨n, open_, open_ + (u.load n).effective * h / 1000⟩) ∨
        (c.mode = .switch ∧ e = pulse open_) ∨
        (c.mode = .burst ∧ (u.load n).burstCycleOn = true ∧ e = pulse open_))) ∧
    (u.firing.lists.get b.line).Pairwise fun x y =>
      x.time < y.time ∨ (x.time = y.time ∧ x.load < y.load)

/-- A boundary drops the line's previous list, with one skip for each train whose pulse was still in it
(R69) and has not been cut by the boundary's own apply (DEDUCED, log 19), and forms the quiet sample of a
declared boundary from the loads as it leaves them (R98); a synthetic boundary gives none (R41, log 20). -/
def Obligations.BoundaryDropsOldListAndSamples : Prop :=
  ∀ (s : State) (b : Boundary),
    let u := s.announce b
    let dropped := fun n => (∃ e, .pulse e ∈ s.firing.lists.get b.line ∧ e.load = n) ∧
      ¬ (s.waitsOn b.line n = true ∧ (s.load n).changesLine = true)
    (∀ n, dropped n → (u.load n).skipCount = min 255 ((s.load n).skipCount + 1)) ∧
    (∀ n, ¬ dropped n → (u.load n).skipCount = (s.load n).skipCount) ∧
    (∀ n, hasLoad u.attention.skip n = true ↔ dropped n ∨ hasLoad s.attention.skip n = true) ∧
    (b.declared = false → u.monitor.quiet.get b.line = none) ∧
    (b.declared = true → ∃ set, u.monitor.quiet.get b.line = some ⟨b.time + b.frontGuard / 2, set⟩ ∧
      ∀ n, hasLoad set n = true ↔
        ((u.load n).state = .active ∨ (u.load n).state = .defined) ∧
        (u.load n).onLine b.line = true ∧ (u.load n).sensed = true)

/-- Applying a member: the copy becomes the configuration in force, the counts are 0, the burst fields are
cleared where mode or line changes, a change of line cuts the load, the member leaves the set, and a set
that becomes empty completes the commit; the other records are kept (R82, R113, R116). A load with sensing
turned off leaves every untaken quiet sample (R104), and so does one whose line changes (DEDUCED, log 29);
the loads not applied stay in theirs. -/
def Obligations.ApplyPutsCopyInForce : Prop :=
  ∀ (s : State) (p : LoadIx → Bool), s.commit.state = .pending →
    let u := s.applyMembers p
    (∀ n old new, p n = true → (s.load n).config = some old → (s.load n).staged = some new →
      u.load n = { s.load n with
        config := some new
        staged := none
        missCount := 0
        stuckCount := 0
        burstAccumulator :=
          if old.mode = new.mode ∧ old.line = new.line then (s.load n).burstAccumulator else 0
        burstCycleOn :=
          if old.mode = new.mode ∧ old.line = new.line then (s.load n).burstCycleOn else false } ∧
      (old.line ≠ new.line → u.NoGateActivity n) ∧
      (old.line ≠ new.line ∨ new.senseEnable = false →
        ∀ l, ∀ q ∈ u.monitor.quiet.get l, hasLoad q.loads n = false)) ∧
    (∀ n, p n = false → u.load n = s.load n) ∧
    (∀ l q, s.monitor.quiet.get l = some q → ∃ loads, u.monitor.quiet.get l = some ⟨q.time, loads⟩ ∧
      ∀ n, p n = false → hasLoad loads n = hasLoad q.loads n) ∧
    (∀ m, m ∈ u.commit.members ↔ m ∈ s.commit.members ∧ p m.load = false) ∧
    u.commit.seq = s.commit.seq ∧
    (u.commit.members = [] → u.commit.state = .idle ∧
      u.attention = { s.attention with commit := some ⟨s.commit.seq, s.attention.commit.isSome⟩ }) ∧
    (u.commit.members ≠ [] → u.commit.state = .pending ∧ u.attention = s.attention)

/-! ### Firing -/

/-- The pulses that fall due start in the free slots in order of due time and of load index, and the rest
wait, the waiting list staying in that order; due pulses leave the lists, and nothing else changes (R68, R77,
R78; all that is due by the instant, log 12). -/
def Obligations.DuePulsesTakeFreeSlots : Prop :=
  ∀ (s : State) (t : Nat), s.rstLow = false →
    let now := max s.now t
    let due := s.firing.duePulses now
    let free := 6 - s.firing.slots.length
    (∀ e, e ∈ due ↔ e.due ≤ now ∧ ∃ l, .pulse e ∈ s.firing.lists.get l) ∧
    (due.Pairwise fun x y => x.due < y.due ∨ (x.due = y.due ∧ x.load ≤ y.load)) ∧
    ∃ u, exec (.pulseDue t) s = .next u ∧
      u.firing.slots = s.firing.slots ++ (due.take free).map (fun e =>
        ⟨e.load, e.line, e.number, e.width, e.count, now + e.width, e.latestStart⟩) ∧
      (∀ e, e ∈ u.firing.waiting ↔ e ∈ s.firing.waiting ∨ e ∈ due.drop free) ∧
      u.firing.waiting.Perm (s.firing.waiting ++ due.drop free) ∧
      (s.WaitingOk → u.WaitingOk) ∧
      (∀ l x, x ∈ u.firing.lists.get l ↔
        x ∈ s.firing.lists.get l ∧ ∀ e, x = .pulse e → now < e.due) ∧
      (∀ e ∈ due.take free, u.gate e.load = true) ∧
      u.firing = { s.firing with
        slots := u.firing.slots, waiting := u.firing.waiting, lists := u.firing.lists } ∧
      u = { s with now := now, firing := u.firing }

/-- A pulse at its full width lowers its gate and frees its slot. The free slots go to the entries that
wait within their latest start, in list order, one each; the others keep waiting (R79 to R81; with six slots
taken before, the head alone starts). The train goes on 200 µs later, or is abandoned with one skip, or is
handed over for a check 150 µs later (R75, R83, R94), which replaces an older check of the load (DESIGN
CHOICE, log 25). -/
def Obligations.PulseEndFreesSlotAndContinues : Prop :=
  ∀ (s : State) (t : Nat) (x : SlotPulse), s.rstLow = false → x ∈ s.firing.slots →
    (∀ y ∈ s.firing.slots, y.load = x.load → y = x) → x.stop ≤ max s.now t →
    let now := max s.now t
    let next : PulseEntry :=
      ⟨x.load, x.line, now + 200, x.number + 1, x.width, x.count, x.latestStart⟩
    let freed := s.firing.slots.erase x
    let granted := (s.firing.waiting.filter fun e => now ≤ e.latestStart).take (6 - freed.length)
    ∃ u, exec (.pulseEnd t x.load) s = .next u ∧
      u.firing.slots = freed ++ granted.map (fun e =>
        ⟨e.load, e.line, e.number, e.width, e.count, now + e.width, e.latestStart⟩) ∧
      u.firing.waiting.Sublist s.firing.waiting ∧ (granted ++ u.firing.waiting).Perm s.firing.waiting ∧
      (∀ e ∈ granted, u.gate e.load = true) ∧
      (x ∉ freed → (∀ e ∈ s.firing.waiting, e.load ≠ x.load) →
        (∀ h ∈ s.firing.held, h.load ≠ x.load) → u.gate x.load = false) ∧
      (s.firing.waiting = [] →
        u.firing.slots = s.firing.slots.erase x ∧ u.firing.waiting = []) ∧
      (∀ e es, s.firing.waiting = e :: es → now ≤ e.latestStart → s.firing.slots.length = 6 →
        u.firing.slots = s.firing.slots.erase x ++
          [⟨e.load, e.line, e.number, e.width, e.count, now + e.width, e.latestStart⟩] ∧
        u.firing.waiting = es ∧ u.gate e.load = true) ∧
      u.firing = { s.firing with
        slots := u.firing.slots, waiting := u.firing.waiting, lists := u.firing.lists } ∧
      (x.number < x.count → now + 200 ≤ x.latestStart →
        (∀ l e, e ∈ u.firing.lists.get l ↔
          e ∈ s.firing.lists.get l ∨ (l = x.line ∧ e = .pulse next)) ∧
        u = { s with now := now, firing := u.firing }) ∧
      (x.number < x.count → x.latestStart < now + 200 →
        s.Skips u (· = x.load) ∧ u.firing.lists = s.firing.lists ∧
        u = { s with now := now, firing := u.firing, loads := u.loads, attention := u.attention }) ∧
      (x.count ≤ x.number → u.firing.lists = s.firing.lists ∧
        u.monitor.quiet = s.monitor.quiet ∧
        (∀ c, c ∈ u.monitor.checks ↔ if (s.load x.load).sensed = true then
            c = ⟨x.load, now + 150⟩ ∨ (c ∈ s.monitor.checks ∧ c.load ≠ x.load)
          else c ∈ s.monitor.checks) ∧
        u = { s with now := now, firing := u.firing, monitor := u.monitor })

/-- A waiting pulse whose latest start has passed is removed and its train is abandoned with one skip and
no check (R80). -/
def Obligations.LatestStartAbandonsTrain : Prop :=
  ∀ (s : State) (t : Nat) (e : PulseEntry), s.rstLow = false → e ∈ s.firing.waiting →
    (∀ y ∈ s.firing.waiting, y.load = e.load → y = e) → e.latestStart < max s.now t →
    ∃ u, exec (.latestStartPassed t e.load) s = .next u ∧ s.Skips u (· = e.load) ∧
      u.firing = { s.firing with waiting := s.firing.waiting.erase e } ∧
      u = { s with
        now := max s.now t, firing := u.firing, loads := u.loads, attention := u.attention }

/-- A held drive raises its gate at its start time whatever the slots hold (R68, R72), in place of an older
drive of the load still held (DESIGN CHOICE, log 25). At its end time it is released; before that an ACTIVE, sensed load is judged by the reading of S n (R72, R94, R95, R101, R103). -/
def Obligations.HeldDriveStartsAndIsJudgedAtEnd : Prop :=
  (∀ (s : State) (t : Nat) (l : Line) (e : HeldEntry), s.rstLow = false →
    .held e ∈ s.firing.lists.get l → e.start ≤ max s.now t →
    (∀ l' e', .held e' ∈ s.firing.lists.get l' → e'.load = e.load → e' = e) →
    ∃ u, exec (.heldDriveStart t e.load) s = .next u ∧ u.gate e.load = true ∧
      (∀ h, h ∈ u.firing.held ↔ h = ⟨e.load, e.stop⟩ ∨ (h ∈ s.firing.held ∧ h.load ≠ e.load)) ∧
      (∀ l' x, x ∈ u.firing.lists.get l' ↔ x ∈ s.firing.lists.get l' ∧ x ≠ .held e) ∧
      u.firing = { s.firing with lists := u.firing.lists, held := u.firing.held } ∧
      u = { s with now := max s.now t, firing := u.firing }) ∧
  ∀ (s : State) (t : Nat) (h : HeldDrive) (level : Bool), s.rstLow = false → h ∈ s.firing.held →
    (∀ y ∈ s.firing.held, y.load = h.load → y = h) → s.firing.held.Nodup → h.stop ≤ max s.now t →
    (∀ x ∈ s.firing.slots, x.load ≠ h.load) →
    let r := s.load h.load
    ∃ u, exec (.heldDriveEnd t h.load level) s = .next u ∧ u.gate h.load = false ∧
      (¬ (r.state = .active ∧ r.sensed = true) →
        u = { s with
          now := max s.now t
          sense := u.sense
          firing := { s.firing with held := s.firing.held.erase h } }) ∧
      (r.state = .active → r.sensed = true → level = true →
        u = { s with
          now := max s.now t
          sense := u.sense
          loads := s.loads.set h.load { r with missCount := 0 }
          firing := { s.firing with held := s.firing.held.erase h } }) ∧
      (r.state = .active → r.sensed = true → level = false → r.missCount + 1 < r.missLimit →
        u = { s with
          now := max s.now t
          sense := u.sense
          loads := s.loads.set h.load { r with missCount := r.missCount + 1 }
          firing := { s.firing with held := s.firing.held.erase h } }) ∧
      (r.state = .active → r.sensed = true → level = false → r.missLimit ≤ r.missCount + 1 →
        s.Retires u h.load .noConduction)

/-! ### Conduction monitoring -/

/-- A pending check falling due is removed; where the load is still ACTIVE and sensed, a conducting
reading clears miss_count, and a reading without conduction raises it or, at miss_limit, faults the load
with NO_CONDUCTION (R95, R101). -/
def Obligations.DueCheckClearsRaisesOrFaults : Prop :=
  ∀ (s : State) (t : Nat) (c : PendingCheck) (level : Bool), s.rstLow = false →
    c ∈ s.monitor.checks → (∀ y ∈ s.monitor.checks, y.load = c.load → y = c) →
    s.monitor.checks.Nodup → c.due ≤ max s.now t →
    let r := s.load c.load
    let left : Monitor := { s.monitor with checks := s.monitor.checks.erase c }
    ∃ u, exec (.postFiringCheck t c.load level) s = .next u ∧
      (∀ y ∈ u.monitor.checks, y.load ≠ c.load) ∧
      (¬ (r.state = .active ∧ r.sensed = true) →
        u = { s with now := max s.now t, sense := u.sense, monitor := left }) ∧
      (r.state = .active → r.sensed = true → level = true →
        u = { s with
          now := max s.now t, sense := u.sense, monitor := left
          loads := s.loads.set c.load { r with missCount := 0 } }) ∧
      (r.state = .active → r.sensed = true → level = false → r.missCount + 1 < r.missLimit →
        u = { s with
          now := max s.now t, sense := u.sense, monitor := left
          loads := s.loads.set c.load { r with missCount := r.missCount + 1 } }) ∧
      (r.state = .active → r.sensed = true → level = false → r.missLimit ≤ r.missCount + 1 →
        s.Retires u c.load .noConduction)

/-- A quiet sample judges every load of its set that is still ACTIVE or DEFINED, on the line and sensed:
no conduction clears stuck_count, conduction raises it or, at miss_limit, faults the load with STUCK_ON;
every other record is kept (R99, R101). A load so faulted is in no untaken sample of another line either
(R103). -/
def Obligations.QuietSampleJudgesEachLoad : Prop :=
  ∀ (s : State) (t : Nat) (l : Line) (levels : LoadSet) (q : QuietSample), s.rstLow = false →
    s.monitor.quiet.get l = some q → q.time ≤ max s.now t →
    let judged := fun n => hasLoad q.loads n = true ∧
      ((s.load n).state = .active ∨ (s.load n).state = .defined) ∧
      (s.load n).onLine l = true ∧ (s.load n).sensed = true
    let atLimit := fun n => judged n ∧ hasLoad levels n = true ∧
      (s.load n).missLimit ≤ (s.load n).stuckCount + 1
    ∃ u, exec (.quietSample t l levels) s = .next u ∧ u.monitor.quiet.get l = none ∧
      (∀ m, m ≠ l → s.LeaveSample u m atLimit) ∧
      (∀ n, ¬ judged n → u.load n = s.load n) ∧
      (∀ n, judged n → hasLoad levels n = false → u.load n = { s.load n with stuckCount := 0 }) ∧
      (∀ n, judged n → hasLoad levels n = true → (s.load n).stuckCount + 1 < (s.load n).missLimit →
        u.load n = { s.load n with stuckCount := (s.load n).stuckCount + 1 }) ∧
      (∀ n, atLimit n → u.NoGateActivity n ∧ u.load n = { s.load n with
        state := .faulted, currentLevel := 0, targetLevel := 0, ramp := none
        missCount := 0, stuckCount := 0, faultCause := some .stuckOn }) ∧
      (∀ n, hasLoad u.attention.fault n = true ↔ atLimit n ∨ hasLoad s.attention.fault n = true) ∧
      u.attention = { s.attention with fault := u.attention.fault } ∧
      u = { s with
        now := max s.now t, sense := levels, loads := u.loads, firing := u.firing
        monitor := u.monitor, attention := u.attention }

/-! ### Station link -/

/-- A hold whose expiry time is reached is stopped: its ramps settle where they are, the record goes, and
STATION gains hold_expired (R64, R157, R158). A new HOLD_STOP that is accepted stops the slot's hold on its
zone, and changes no load and no hold where the slot holds none on it (R154). -/
def Obligations.ExpiryAndHoldStopStopHold : Prop :=
  (∀ (s : State) (t : Nat) (i : SlotIx) (h : Hold), s.rstLow = false → (s.slot i).hold = some h →
    h.expiry ≤ max s.now t →
    ∃ u, exec (.holdExpiry t i) s = .next u ∧
      (∀ n, (s.load n).holdStopped (· = i) (u.load n)) ∧
      u.slot i = { s.slot i with hold := none } ∧ (∀ j, j ≠ i → u.slot j = s.slot j) ∧
      u = { s with
        now := max s.now t
        loads := u.loads
        link := { s.link with slots := u.link.slots }
        attention := s.attention.reportStation i fun d => { d with holdExpired := true } }) ∧
  ∀ (s : State) (t : Nat) (q : Poll) (f : List Byte) (b : Bool) (z : Zone),
    s.Awaits t q → (s.slot q.slot).lastSeq ≠ some b → s.firing.inhibit = false →
    hasZone (s.slot q.slot).allowed z = true → parseReply q.address f = some (.holdStop z b) →
    let x := s.slot q.slot
    ∃ u, exec (.holdStop t f) s = .next u ∧
      ((∃ h, x.hold = some h ∧ h.zone = z) →
        s.Serves u t q { x.judged b .accepted with hold := none } id ∧
        ∀ n, (s.load n).holdStopped (· = q.slot) (u.load n)) ∧
      ((∀ h, x.hold = some h → h.zone ≠ z) →
        s.Serves u t q (x.judged b .accepted) id ∧ u.loads = s.loads)

/-- The choice made as a poll ends, or as polling begins, is that of R146 from the table as it then stands.
With the link on, no poll in flight and the turnaround over, the slot chosen gets a Poll frame with its
address and acknowledgement, becomes the round position or the rotation pointer, and a 4 ms reply window
follows the frame (R145, R146, R151, R188; the frame's 1040 µs are log 13, the earliest start log 15). -/
def Obligations.PollPicksNextSlotOfRound : Prop :=
  (∀ k : StationLink, k.Chooses k.chooseNext) ∧
  ∀ (s : State) (t : Nat) (i : SlotIx) (c : Choice) (e : Enrolment), s.rstLow = false →
    s.link.enable = true → s.link.poll = none → s.link.nextPollAt ≤ max s.now t →
    s.link.chosen = some c → c = .online i ∨ c = .rediscovery i → (s.slot i).station = some e →
    let now := max s.now t
    let x := s.slot i
    let ack : Nat :=
      (match x.lastResult with
        | .nothing => 0
        | .accepted => 1
        | .refused .inhibited => 2 + 4 * 1
        | .refused .notAllowed => 2 + 4 * 2
        | .refused .noScene => 2 + 4 * 3) +
      (match x.lastSeq with
        | none => 0
        | some q => 16 * q.toNat + 32)
    let body := [0x96#8, byte e.address, byte ack]
    ∃ u, exec (.poll t) s = .next u ∧ u.lde = true ∧
      u = { s with
        now := now
        link := { s.link with
          roundPosition := if c = .online i then some i else s.link.roundPosition
          rediscovered := if c = .online i then s.link.rediscovered else true
          pointer := if c = .online i then s.link.pointer else i
          chosen := none
          poll := some ⟨i, e.address, now, now + 1040, now + 5040, none, false⟩
          ltx := body ++ [crc8 body] } }

/-- A window that closes without a valid Reply fails the poll: fail_count rises, at the fifth failure in
a row an ONLINE slot goes OFFLINE and loses its hold, an OFFLINE slot is kept, and the outcome of a poll
marked for discard is ignored (R145, R147, R148); the next slot is chosen from the table so changed (R146).
After a link disable or RESTART no 200 µs are added (DESIGN CHOICE, log 15). -/
def Obligations.WindowCloseFailsPoll : Prop :=
  ∀ (s : State) (t : Nat) (q : Poll), s.rstLow = false → s.link.poll = some q →
    q.windowEnd ≤ max s.now t →
    let x := s.slot q.slot
    ∃ u, exec (.replyWindowClose t) s = .next u ∧ u.link.poll = none ∧
      u = { s with
        now := max s.now t
        loads := u.loads
        link := u.link
        attention := u.attention } ∧
      StationLink.Chooses { s.link with
        poll := none, nextPollAt := u.link.nextPollAt, slots := u.link.slots } u.link ∧
      u.link.nextPollAt =
        (if q.discard = some .stopped then s.link.nextPollAt else max s.now t + 200) ∧
      (∀ j, j ≠ q.slot → u.slot j = s.slot j) ∧
      (q.discard.isSome = true ∨ x.state ≠ .online →
        u.slot q.slot = x ∧ u.loads = s.loads ∧ u.attention = s.attention) ∧
      (q.discard = none → x.state = .online → x.failCount < 4 →
        u.slot q.slot = { x with failCount := x.failCount + 1 } ∧ u.loads = s.loads ∧
        u.attention = s.attention) ∧
      (q.discard = none → x.state = .online → 4 ≤ x.failCount →
        u.slot q.slot = { x with state := .offline, failCount := 0, hold := none } ∧
        (x.hold ≠ none → ∀ n, (s.load n).holdStopped (· = q.slot) (u.load n)) ∧
        (x.hold = none → u.loads = s.loads) ∧
        u.attention = s.attention.reportStation q.slot fun d => { d with offline := true })

/-- A valid IDLE ends its poll, brings the slot ONLINE with fail_count 0 and sets last_result to NONE
(R146, R147, R149); a complete Reply that is not valid changes no slot, and leaves the window deaf (R145). -/
def Obligations.IdleAndInvalidReplies : Prop :=
  (∀ (s : State) (t : Nat) (q : Poll) (f : List Byte), s.Awaits t q →
    parseReply q.address f = some .idle →
    ∃ u, exec (.idle t f) s = .next u ∧ u.loads = s.loads ∧
      s.Serves u t q { s.slot q.slot with state := .online, failCount := 0, lastResult := .nothing } id) ∧
  ∀ (s : State) (t : Nat) (q : Poll) (f : List Byte), s.Awaits t q → replyComplete f = true →
    parseReply q.address f = none →
    exec (.replyNotValid t f) s = .next { s with
      now := max s.now t
      link := { s.link with poll := some { q with answered := true } } }

/-- A new RECALL that is accepted claims, for every entry whose load is ACTIVE, unlocked and in an allowed
zone, the entry's level with the scene's fade and origin SCENE(n), and passes every other load by; a new
OFF that is accepted claims every eligible load of its zone to 0 with off_fade and origin STATION(s)
(R61, R131, R134, R147, R149, R152, R155, R156). -/
def Obligations.AcceptedRecallAndOffClaimLevels : Prop :=
  ∀ (s : State) (t : Nat) (q : Poll) (f : List Byte) (b : Bool), s.Awaits t q →
    (s.slot q.slot).lastSeq ≠ some b → s.firing.inhibit = false →
    let x := s.slot q.slot
    (∀ n c, parseReply q.address f = some (.recall n b) → s.scenes.scenes.get n = some c →
      (c.entries.map (·.load)).Nodup →
      let reached := fun (r : Record) => ∃ g, r.config = some g ∧ r.state = .active ∧
        (∃ z, hasZone g.zones z = true ∧ hasZone x.allowed z = true) ∧ r.stationLock = false
      ∃ u, exec (.recall t f) s = .next u ∧ s.Serves u t q (x.judged b .accepted) id ∧
        (∀ e ∈ c.entries, reached (s.load e.load) → u.load e.load =
          (s.load e.load).claimed e.level c.fade (s.halfPeriodOf (s.load e.load)) (.scene n)) ∧
        ∀ m, ¬ (reached (s.load m) ∧ ∃ e ∈ c.entries, e.load = m) → u.load m = s.load m) ∧
    ∀ z, parseReply q.address f = some (.off z b) → hasZone x.allowed z = true →
      ∃ u, exec (.off t f) s = .next u ∧ s.Serves u t q (x.judged b .accepted) id ∧
        (∀ n g, (s.load n).Reached g z → u.load n =
          (s.load n).claimed 0 s.link.offFade (s.halfPeriodOf (s.load n)) (.station q.slot)) ∧
        ∀ n, (∀ g, ¬ (s.load n).Reached g z) → u.load n = s.load n

/-- A new RAISE_START or LOWER_START that is accepted: a matching hold is kept alive and no load is
touched; otherwise the slot's old hold is stopped and the new one claims every eligible load of the zone
toward its limit at hold_step per boundary, a LOWER passing by a load at level 0 (R62, R63, R153). -/
def Obligations.AcceptedHoldStartsClaimOrKeepAlive : Prop :=
  ∀ (s : State) (t : Nat) (q : Poll) (f : List Byte) (b : Bool) (z : Zone) (d : Direction),
    s.Awaits t q → (s.slot q.slot).lastSeq ≠ some b → s.firing.inhibit = false →
    hasZone (s.slot q.slot).allowed z = true →
    parseReply q.address f = some (match d with
      | .raise => .raiseStart z b
      | .lower => .lowerStart z b) →
    let x := s.slot q.slot
    let expiry := max s.now t + s.link.holdExpiry * 1000
    ∃ u, exec (match d with
        | .raise => .raiseStart t f
        | .lower => .lowerStart t f) s = .next u ∧
      s.Serves u t q { x.judged b .accepted with hold := some ⟨z, d, expiry⟩ } id ∧
      ((∃ old, x.hold = some ⟨z, d, old⟩) → u.loads = s.loads) ∧
      ((∀ old, x.hold ≠ some ⟨z, d, old⟩) → ∀ n, ∃ r,
        (s.load n).holdStopped (fun i => i = q.slot ∧ x.hold.isSome = true) r ∧
        (((∀ c, ¬ r.Reached c z) ∨ (d = .lower ∧ r.currentLevel = 0)) → u.load n = r) ∧
        ∀ c, r.Reached c z → ¬ (d = .lower ∧ r.currentLevel = 0) →
          let target := if d = .raise then c.maxLevel else c.minLevel
          let distance := ((target : Int) - r.currentLevel).natAbs
          u.load n = { r with
            targetLevel := target
            ramp := if distance = 0 then none
              else some ⟨(distance + s.link.holdStep - 1) / s.link.holdStep, .hold q.slot⟩ })

/-- A request other than IDLE with the sequence bit of last_seq is a duplicate and is not judged; a new
one is refused with INHIBITED, NOT_ALLOWED or NO_SCENE in that order, keeps its bit, gains refused and
changes no load and no hold (R149, R150). -/
def Obligations.DuplicatesAndRefusalsTouchNoLoad : Prop :=
  ∀ (s : State) (t : Nat) (q : Poll) (f : List Byte) (c : Instr) (r : Request) (b : Bool),
    s.Awaits t q → parseReply q.address f = some r →
    ((∃ n, r = .recall n b ∧ c = .recall t f) ∨ (∃ z, r = .raiseStart z b ∧ c = .raiseStart t f) ∨
      (∃ z, r = .lowerStart z b ∧ c = .lowerStart t f) ∨
      (∃ z, r = .holdStop z b ∧ c = .holdStop t f) ∨ (∃ z, r = .off z b ∧ c = .off t f)) →
    let x := s.slot q.slot
    let zone := r.wire.2.headD 0
    let refused := fun (why : Reason) => ∃ u, exec c s = .next u ∧ u.loads = s.loads ∧
      s.Serves u t q (x.judged b (.refused why)) fun d => { d with refused := true }
    (x.lastSeq = some b → ∃ u, exec c s = .next u ∧ u.loads = s.loads ∧
      s.Serves u t q { x with state := .online, failCount := 0 } id) ∧
    (x.lastSeq ≠ some b → s.firing.inhibit = true → refused .inhibited) ∧
    (x.lastSeq ≠ some b → s.firing.inhibit = false → (∀ n q, r ≠ .recall n q) →
      x.allowed.getLsbD zone.toNat = false → refused .notAllowed) ∧
    ∀ n, x.lastSeq ≠ some b → s.firing.inhibit = false → r = .recall n b →
      s.scenes.scenes.get n = none → refused .noScene

/-! ### Control Port -/

/-- A command write whose CS fell after the last reset gives a frame: accepted in IDLE, accepted with the
lost-response mark in RESPONSE_READY, discarded with the overrun mark in EXECUTING (R165, R169). A response
read shifts out the held response and consumes it once its status byte is out, or gives NOT_READY and
changes neither unit state nor marks (R168, R185); the consumption in the same action, and the bound
`openSince` on the fall of CS, are log 9 (DESIGN CHOICE). A transaction that names neither kind changes no
state of the Command Unit, with SDO high (R163). What SDO carried is kept as log 10 has it. -/
def Obligations.TransactionsActByUnitState : Prop :=
  (∀ (s : State) (t csFell : Nat) (f : List Byte), s.rstLow = false → s.port.openSince ≤ csFell →
    f ≠ [] →
    let high := List.replicate f.length 0xFF#8
    (s.port.unit = .idle → exec (.commandWrite t csFell f) s = .next { s with
      now := max s.now t
      port := { s.port with unit := .executing (f.take 132), sdo := high } }) ∧
    (∀ r, s.port.unit = .responseReady r → exec (.commandWrite t csFell f) s = .next { s with
      now := max s.now t
      port := { s.port with unit := .executing (f.take 132), sdo := high, lostResponse := true } }) ∧
    ∀ g, s.port.unit = .executing g → exec (.commandWrite t csFell f) s = .next { s with
      now := max s.now t
      port := { s.port with sdo := high, overrun := true } }) ∧
  ∀ (s : State) (t csFell : Nat), s.rstLow = false → s.port.openSince ≤ csFell →
    (∀ r n, s.port.unit = .responseReady r →
      let flags := byte (r.overrun.toNat + 2 * r.lostResponse.toNat + 4 * r.attention.toNat)
      let body := [r.status.code, flags, byte r.payload.length] ++ r.payload
      let image := body ++ [crc8 body]
      exec (.responseRead t csFell n) s = .next { s with
        now := max s.now t
        port := { s.port with
          unit := if n = 0 then .responseReady r else .idle
          sdo := image.take n ++ List.replicate (n - image.length) 0xFF#8 } }) ∧
    (∀ n, (∀ r, s.port.unit ≠ .responseReady r) →
      exec (.responseRead t csFell (n + 1)) s = .next { s with
        now := max s.now t
        port := { s.port with sdo := 0x08#8 :: List.replicate n 0xFF#8 } }) ∧
    ∀ bytes, exec (.transactionIgnored t csFell bytes) s = .next { s with
      now := max s.now t
      port := { s.port with sdo := List.replicate (bytes.length - 1) 0xFF#8 } }

/-- A frame that is not intact, or of a length its code does not require, is answered with BAD_FRAME, and
a code that names no command with UNKNOWN_COMMAND; nothing else changes (R164, R167, R186). -/
def Obligations.BadFramesAndCodesAreRefused : Prop :=
  ∀ (s : State) (t : Nat),
    (∀ f, s.rstLow = false → s.port.unit = .executing f → parseFrame f = none →
      ∃ u, exec (.frameNotIntact t) s = .next u ∧ s.Refuses u t .badFrame) ∧
    (∀ code p, s.Executing code p → (∀ c, (code, c) ∉ executions t) →
      ∃ u, exec (.unknownCommand t) s = .next u ∧ s.Refuses u t .unknownCommand) ∧
    (∀ code c n p, (code, c) ∈ executions t → lengthRule code = some (.exactly n) →
      s.Executing code p → p.length ≠ n → ∃ u, exec c s = .next u ∧ s.Refuses u t .badFrame) ∧
    ∀ p, s.Executing 0x40#8 p → ¬ (4 ≤ p.length ∧ p.length = 4 + 3 * byteAt p 3) →
      ∃ u, exec (.writeScene t) s = .next u ∧ s.Refuses u t .badFrame

/-- Whatever command is executed, a response with a status other than OK carries no payload, and the
command has changed nothing but the Command Unit (R167). -/
def Obligations.RefusedCommandChangesNothing : Prop :=
  ∀ (s u : State) (t : Nat) (code : Byte) (p : List Byte) (c : Instr) (r : Response),
    (code, c) ∈ executions t → s.Executing code p → exec c s = .next u →
    u.port.unit = .responseReady r → r.status ≠ .ok → s.Refuses u t r.status

/-- The refusals of Table 1-6 and of R86: a load index above 23 gives BAD_ARGUMENT (R1); ENABLE_LOAD
and SET_LEVEL with valid arguments give INHIBITED in inhibit; and each lifecycle command gives STATE
in the record states that refuse it (R10 to R20, R50). -/
def Obligations.LoadCommandsRefuseByState : Prop :=
  ∀ (s : State) (t : Nat),
    (∀ code c p, (code, c) ∈ executions t → (0x20#8 ≤ code ∧ code ≤ 0x31#8) →
      (∃ r, lengthRule code = some r ∧ r.holds p = true) → s.Executing code p → 24 ≤ byteAt p 0 →
      ∃ u, exec c s = .next u ∧ s.Refuses u t .badArgument) ∧
    ∀ n : LoadIx,
      let st := (s.load n).state
      let i := [byte n.val]
      let refuses := fun (c : Instr) (status : Status) => ∃ u, exec c s = .next u ∧ s.Refuses u t status
      (s.Executing 0x21#8 i → s.firing.inhibit = true → refuses (.enableLoad t) .inhibited) ∧
      (s.Executing 0x21#8 i → s.firing.inhibit = false → st ≠ .defined → refuses (.enableLoad t) .state) ∧
      (s.Executing 0x22#8 i → st ≠ .active → refuses (.disableLoad t) .state) ∧
      (s.Executing 0x23#8 i → st = .vacant ∨ st = .active → refuses (.releaseLoad t) .state) ∧
      (s.Executing 0x23#8 i → st = .defined ∨ st = .faulted → s.isMember n = true →
        refuses (.releaseLoad t) .busy) ∧
      (s.Executing 0x26#8 i → st ≠ .faulted → refuses (.clearFault t) .state) ∧
      (∀ on, s.Executing 0x25#8 [byte n.val, flagByte on] → st = .vacant →
        refuses (.setLock t) .state) ∧
      (∀ c : LoadConfig, c.valid = true → s.Executing 0x20#8 (byte n.val :: configBytes c) →
        st ≠ .vacant → refuses (.defineLoad t) .state) ∧
      ∀ level fade, level ≤ 1000 → fade ≤ 6000 →
        s.Executing 0x24#8 (byte n.val :: (word level ++ word fade)) →
        (s.firing.inhibit = true → refuses (.setLevel t) .inhibited) ∧
        (s.firing.inhibit = false → st ≠ .active → refuses (.setLevel t) .state)

/-! ### Load commands -/

/-- DEFINE_LOAD makes a VACANT record DEFINED with the carried configuration, a miss_limit of 0 held as 4,
and every working field at its VACANT value (R11, R3). -/
def Obligations.DefineLoadWritesRecord : Prop :=
  ∀ (s : State) (t : Nat) (n : LoadIx) (c : LoadConfig) (carried : Nat),
    c.valid = true → c.missLimit = (if carried = 0 then 4 else carried) → carried ≤ 15 →
    s.Executing 0x20#8 (byte n.val :: configBytes { c with missLimit := carried }) →
    (s.load n).state = .vacant →
    ∃ u, exec (.defineLoad t) s = .next u ∧
      s.SetsRecord u t n { Record.vacant with state := .defined, config := some c }

/-- ENABLE_LOAD makes a DEFINED record ACTIVE at level 0 (R12), CLEAR_FAULT a FAULTED record DEFINED with
its counts at 0 (R19), SET_LOCK writes station_lock in every state but VACANT (R20), and RELEASE_LOAD makes
a DEFINED or FAULTED record that is no member VACANT, removes its pending check and takes the load out of
every untaken quiet sample (R17, R18, R96, R99); no other record and no other block changes. -/
def Obligations.EnableReleaseClearAndLock : Prop :=
  (∀ (s : State) (t : Nat) (n : LoadIx),
    (s.Executing 0x21#8 [byte n.val] → s.firing.inhibit = false → (s.load n).state = .defined →
      ∃ u, exec (.enableLoad t) s = .next u ∧ s.SetsRecord u t n { s.load n with
        state := .active, currentLevel := 0, targetLevel := 0, ramp := none
        burstAccumulator := 0, burstCycleOn := false, missCount := 0 }) ∧
    (s.Executing 0x26#8 [byte n.val] → (s.load n).state = .faulted →
      ∃ u, exec (.clearFault t) s = .next u ∧ s.SetsRecord u t n { s.load n with
        state := .defined, currentLevel := 0, targetLevel := 0, ramp := none
        faultCause := none, missCount := 0, stuckCount := 0 }) ∧
    ∀ on, s.Executing 0x25#8 [byte n.val, flagByte on] → (s.load n).state ≠ .vacant →
      ∃ u, exec (.setLock t) s = .next u ∧ s.SetsRecord u t n { s.load n with stationLock := on }) ∧
  ∀ (s : State) (t : Nat) (n : LoadIx), s.Executing 0x23#8 [byte n.val] →
    (s.load n).state = .defined ∨ (s.load n).state = .faulted → s.isMember n = false →
    ∃ u, exec (.releaseLoad t) s = .next u ∧ u.load n = Record.vacant ∧
      (∀ m, m ≠ n → u.load m = s.load m) ∧
      (∀ c, c ∈ u.monitor.checks ↔ c ∈ s.monitor.checks ∧ c.load ≠ n) ∧
      (∀ l, s.LeaveSample u l (· = n)) ∧ s.Answers u .ok [] ∧
      u = { s with now := max s.now t, loads := u.loads, monitor := u.monitor, port := u.port }

/-- DISABLE_LOAD makes an ACTIVE record DEFINED at level 0 with no ramp and the load cut, in the same
execution applies it where it is a member of the pending commit, and changes no other record (R14, R15,
R112). -/
def Obligations.DisableLoadCutsAndApplies : Prop :=
  ∀ (s : State) (t : Nat) (n : LoadIx), s.Executing 0x22#8 [byte n.val] → (s.load n).state = .active →
    let off := { s.load n with
      state := .defined, currentLevel := 0, targetLevel := 0, ramp := none, missCount := 0 }
    ∃ u, exec (.disableLoad t) s = .next u ∧ u.NoGateActivity n ∧
      (∀ m, m ≠ n → u.load m = s.load m) ∧ s.Answers u .ok [] ∧
      (∀ x ∈ s.firing.slots, x.load ≠ n → x ∈ u.firing.slots) ∧
      (s.isMember n = false → u.load n = off ∧
        u = { s with
          now := max s.now t, loads := u.loads, firing := u.firing, monitor := u.monitor
          port := u.port }) ∧
      (s.isMember n = true → u.load n = Record.applyStaged off ∧
        (∀ m, m ∈ u.commit.members ↔ m ∈ s.commit.members ∧ m.load ≠ n) ∧
        u = { s with
          now := max s.now t, loads := u.loads, firing := u.firing, monitor := u.monitor
          commit := u.commit, attention := u.attention, port := u.port })

/-- SET_LEVEL on an ACTIVE record outside inhibit is a claim with origin COMMAND: fade 0 sets the level at
once, a fade to another level makes a ramp of fade × 10000 / P steps rounded up, with P of the load's line
or nominal_half_period (R49, R50, R52, R53). -/
def Obligations.SetLevelClaimsTarget : Prop :=
  ∀ (s : State) (t : Nat) (n : LoadIx) (c : LoadConfig) (level fade : Nat), level ≤ 1000 → fade ≤ 6000 →
    s.Executing 0x24#8 (byte n.val :: (word level ++ word fade)) → s.firing.inhibit = false →
    (s.load n).state = .active → (s.load n).config = some c →
    let p := match (s.trackers.get c.line).lock with
      | .locked k => k.p
      | .holdover k _ => k.p
      | _ => s.lineConfig.nominalHalfPeriod
    ∃ u, exec (.setLevel t) s = .next u ∧
      s.SetsRecord u t n ((s.load n).claimed level fade p .command)

/-- The reads that clear what they report, with their images: READ_LINE the noise count (R44, Table 11-5),
READ_LOAD skip_count (R9, R22, R23, Table 11-4), READ_EVENTS the detail of one class (R180, Table 11-7). -/
def Obligations.ClearingReadsReportThenClear : Prop :=
  ∀ (s : State) (t : Nat),
    (∀ l : Line, s.Executing 0x11#8 [byte (lineCode l)] →
      let x := s.trackers.get l
      let held : Nat × Nat × Polarity := match x.lock with
        | .locked k => (1, k.p, k.polarity)
        | .holdover k _ => (1, k.p, k.polarity)
        | _ => (0, 0, if s.zc.get l then .pos else .neg)
      let lock : Byte := match x.lock with
        | .off => 0
        | .absent => 1
        | .acquiring _ _ => 2
        | .locked _ => 3
        | .holdover _ _ => 4
      ∃ u, exec (.readLine t) s = .next u ∧
        s.Answers u .ok ([lock, byte held.1] ++ word held.2.1 ++
          [if held.2.2 = .pos then 1 else 0, byte x.noiseCount] ++ word x.counter.toNat) ∧
        u = { s with
          now := max s.now t, trackers := s.trackers.set l { x with noiseCount := 0 }, port := u.port }) ∧
    (∀ n : LoadIx, s.Executing 0x27#8 [byte n.val] →
      let r := s.load n
      let effective : Nat := match r.config with
        | none => 0
        | some c => if r.currentLevel = 0 then 0 else if r.currentLevel < c.minLevel then c.minLevel
            else if c.maxLevel < r.currentLevel then c.maxLevel else r.currentLevel
      let state : Byte := match r.state with
        | .vacant => 0
        | .defined => 1
        | .active => 2
        | .faulted => 3
      let configuration : List Byte := match r.config with
        | none => [0, 0, 0, 0, 0, 0, 0, 0, 0, 0, 0, 0]
        | some c =>
          let line : Byte := match c.line with
            | .a => 0
            | .b => 1
            | .c => 2
          let mode : Byte := match c.mode with
            | .phaseLead => 0
            | .phaseTrail => 1
            | .burst => 2
            | .switch => 3
          [line, mode] ++ word c.minLevel ++ word c.maxLevel ++ word c.pulseWidth ++
            [byte c.pulseCount, byte c.senseEnable.toNat, byte c.missLimit, c.zones]
      let ramp : List Byte := match r.ramp with
        | none => [0, 0, 0, 0, 0]
        | some ⟨k, .command⟩ => [1] ++ word k ++ [1, 0]
        | some ⟨k, .scene n⟩ => [1] ++ word k ++ [2, byte n.val]
        | some ⟨k, .hold i⟩ => [1] ++ word k ++ [3, byte i.val]
        | some ⟨k, .station i⟩ => [1] ++ word k ++ [4, byte i.val]
      let cause : Byte := match r.faultCause with
        | none => 0
        | some .noConduction => 1
        | some .stuckOn => 2
      ∃ u, exec (.readLoad t) s = .next u ∧ u.load n = { s.load n with skipCount := 0 } ∧
        (∀ m, m ≠ n → u.load m = s.load m) ∧
        s.Answers u .ok ([state] ++ configuration ++ word r.currentLevel ++ word r.targetLevel ++
          word effective ++ ramp ++ [byte r.stationLock.toNat] ++ word r.burstAccumulator ++
          [byte r.burstCycleOn.toNat, byte r.missCount, byte r.stuckCount, byte r.skipCount, cause,
            byte r.staged.isSome.toNat]) ∧
        u = { s with now := max s.now t, loads := u.loads, port := u.port }) ∧
    let a := s.attention
    let lineByte := fun (d : LineDetail) =>
      byte (d.lost.toNat + 2 * d.locked.toNat + 4 * d.holdoverEntered.toNat)
    let slotByte := fun (i : SlotIx) => let d := a.station.get i
      byte (d.online.toNat + 2 * d.offline.toNat + 4 * d.refused.toNat + 8 * d.holdExpired.toNat)
    let setBytes := fun (x : LoadSet) => [byte x.toNat, byte (x.toNat / 256), byte (x.toNat / 65536)]
    ∀ c detail left, (c, detail, left) ∈ ([
        (1, [byte (a.safety.restarted.toNat + 2 * a.safety.allOffAsserted.toNat +
            4 * a.safety.allOffReleased.toNat + 8 * a.safety.allOffCommand.toNat)],
          { a with safety := ⟨false, false, false, false⟩ }),
        (2, [lineByte a.line.a, lineByte a.line.b, lineByte a.line.c],
          { a with line := .fill ⟨false, false, false⟩ }),
        (3, setBytes a.fault, { a with fault := 0 }),
        (4, setBytes a.skip, { a with skip := 0 }),
        (5, match a.commit with
          | none => [0, 0, 0]
          | some d => [1, d.seq, byte d.moreThanOne.toNat], { a with commit := none }),
        (6, (List.finRange 8).map slotByte, { a with station := .fill 8 ⟨false, false, false, false⟩ })
        ] : List (Byte × List Byte × Attention)) →
      s.Executing 0x61#8 [c] → ∃ u, exec (.readEvents t) s = .next u ∧ s.Answers u .ok (c :: detail) ∧
        u = { s with now := max s.now t, attention := left, port := u.port }

/-! ### Staging and commit -/

/-- STAGE_LOAD writes the carried configuration into the staged copy of a record that is not VACANT and no
member, and DISCARD_STAGED removes the copy; nothing else changes (R107, R108). A VACANT record refuses
both with STATE and a member with BUSY (Table 6-2). -/
def Obligations.StagingWritesOnlyTheCopy : Prop :=
  ∀ (s : State) (t : Nat) (n : LoadIx) (c : LoadConfig) (carried : Nat),
    c.valid = true → c.missLimit = (if carried = 0 then 4 else carried) → carried ≤ 15 →
    (s.Executing 0x30#8 (byte n.val :: configBytes { c with missLimit := carried }) →
      ∃ u, exec (.stageLoad t) s = .next u ∧
        ((s.load n).state = .vacant → s.Refuses u t .state) ∧
        ((s.load n).state ≠ .vacant → s.isMember n = true → s.Refuses u t .busy) ∧
        ((s.load n).state ≠ .vacant → s.isMember n = false →
          s.SetsRecord u t n { s.load n with staged := some c })) ∧
    (s.Executing 0x31#8 [byte n.val] →
      ∃ u, exec (.discardStaged t) s = .next u ∧
        ((s.load n).state = .vacant → s.Refuses u t .state) ∧
        ((s.load n).state ≠ .vacant → s.isMember n = true → s.Refuses u t .busy) ∧
        ((s.load n).state ≠ .vacant → s.isMember n = false →
          s.SetsRecord u t n { s.load n with staged := none }))

/-- COMMIT in IDLE takes the next commit_seq, applies at once every staged load that is not ACTIVE on a
tracked line, keeps the others as members, and completes where none remain; in PENDING it is refused with
BUSY (R110, R116). -/
def Obligations.CommitAppliesOrWaits : Prop :=
  ∀ (s : State) (t : Nat), s.RecordsOk → s.Executing 0x32#8 [] →
    let waits := fun n => (s.load n).state = .active ∧ (s.load n).staged ≠ none ∧
      ∃ l, (s.load n).onLine l = true ∧ s.tracks l = true
    ∃ u, exec (.commit t) s = .next u ∧
      (s.commit.state = .pending → s.Refuses u t .busy) ∧
      (s.commit.state = .idle →
        s.Answers u .ok [s.commit.seq + 1, byte u.commit.members.length] ∧
        u.commit.seq = s.commit.seq + 1 ∧
        (∀ m, m ∈ u.commit.members ↔ waits m.load ∧ (s.load m.load).onLine m.line = true) ∧
        (u.commit.members.map (·.load)).Pairwise (· < ·) ∧
        (∀ n, waits n → u.load n = s.load n) ∧
        (∀ n, ¬ waits n → u.load n = (s.load n).applyStaged) ∧
        (u.commit.members = [] → u.commit.state = .idle ∧ u.attention = { s.attention with
          commit := some ⟨s.commit.seq + 1, s.attention.commit.isSome⟩ }) ∧
        (u.commit.members ≠ [] → u.commit.state = .pending ∧ u.attention = s.attention) ∧
        u = { s with
          now := max s.now t, loads := u.loads, firing := u.firing, monitor := u.monitor
          commit := u.commit, attention := u.attention, port := u.port })

/-! ### Queries -/

/-- The reads that change nothing, with their images: READ_COMMIT (R118), READ_SCENE (R128), READ_POOL (R129),
READ_STATION (R141, Table 11-6) and READ_SUMMARY (R176, R179). -/
def Obligations.PlainReadsChangeNothing : Prop :=
  ∀ (s : State) (t : Nat),
    (s.Executing 0x33#8 [] → ∃ u, exec (.readCommit t) s = .next u ∧
      s.Reports u t ([if s.commit.state = .pending then 1 else 0, s.commit.seq,
        byte s.commit.members.length] ++
        s.commit.members.flatMap fun m => [byte m.load.val, byte (lineCode m.line)])) ∧
    (∀ n : SceneIx, s.Executing 0x42#8 [byte n.val] → ∃ u, exec (.readScene t) s = .next u ∧
      s.Reports u t (match s.scenes.scenes.get n with
        | none => [0, 0, 0, 0]
        | some c => [1] ++ word c.fade ++ [byte c.entries.length] ++
            c.entries.flatMap fun e => byte e.load.val :: word e.level)) ∧
    (s.Executing 0x44#8 [] → ∃ u, exec (.readPool t) s = .next u ∧
      s.Reports u t [byte s.scenes.free]) ∧
    (∀ i : SlotIx, s.Executing 0x53#8 [byte i.val] → ∃ u, exec (.readStation t) s = .next u ∧
      let x := s.slot i
      let state : Byte := match x.state with
        | .empty => 0
        | .online => 1
        | .offline => 2
      let station : List Byte := match x.station with
        | none => [0, 0]
        | some e => [byte e.address, e.allowed]
      let lastSeq : Byte := match x.lastSeq with
        | none => 0xFF
        | some q => byte q.toNat
      let result : List Byte := match x.lastResult with
        | .nothing => [0, 0]
        | .accepted => [1, 0]
        | .refused .inhibited => [2, 1]
        | .refused .notAllowed => [2, 2]
        | .refused .noScene => [2, 3]
      let hold : List Byte := match x.hold with
        | none => [0, 0, 0, 0, 0]
        | some h => [1, byte h.zone.val, if h.direction = .raise then 0 else 1] ++
            word ((h.expiry - max s.now t) / 1000)
      s.Reports u t ([state] ++ station ++ [lastSeq] ++ result ++ [byte x.failCount] ++ hold)) ∧
    (s.Executing 0x60#8 [] → ∃ (u : State) (set highest : Byte), exec (.readSummary t) s = .next u ∧
      s.Reports u t [set, highest, s.attention.mask.setWidth 8] ∧
      let shown := fun (c : EventClass) (k : Nat) =>
        s.attention.Pends c ∧ s.attention.mask.getLsbD (k - 1) = false
      (∀ c k, (c, k) ∈ classNumbers → (set.getLsbD (k - 1) = true ↔ s.attention.Pends c)) ∧
      set.toNat < 64 ∧
      ((∃ c k, (c, k) ∈ classNumbers ∧ highest = byte k ∧ shown c k ∧
          ∀ d j, (d, j) ∈ classNumbers → j < k → ¬ shown d j) ∨
        (highest = 0 ∧ ∀ c k, (c, k) ∈ classNumbers → ¬ shown c k)))

/-- IDENTIFY returns part number 324 and revision 1 in every state of the part and changes nothing; its
response collects the marks and the present ATTENTION condition (R172). -/
def Obligations.IdentifyReportsPart : Prop :=
  ∀ (s : State) (t : Nat), s.Executing 0x7E#8 [] →
    ∃ u, exec (.identify t) s = .next u ∧ s.Reports u t [0x01#8, 0x44#8, 0x01#8]

/-! ### Scenes -/

/-- WRITE_SCENE with valid arguments is refused with NO_SPACE where free and own old entries do not hold
the carried ones; otherwise the scene becomes the carried fade and the carried entries in ascending load
index, and the free count f + h - k (R125, R126). DELETE_SCENE undefines a defined scene and returns its
entries, and refuses an undefined one with STATE (R127). -/
def Obligations.SceneWriteAndDeleteKeepPool : Prop :=
  (∀ (s : State) (t : Nat) (n : SceneIx) (fade : Nat) (es : List SceneEntry), fade ≤ 6000 →
    1 ≤ es.length → es.length ≤ 24 → (es.map (·.load)).Nodup → (∀ e ∈ es, e.level ≤ 1000) →
    s.Executing 0x40#8 (byte n.val :: (word fade ++ byte es.length ::
      es.flatMap fun e => byte e.load.val :: word e.level)) →
    let room := s.scenes.free + heldEntries (s.scenes.scenes.get n)
    ∃ u, exec (.writeScene t) s = .next u ∧
      (room < es.length → s.Refuses u t .noSpace) ∧
      (es.length ≤ room → ∃ c, u.scenes.scenes.get n = some c ∧ c.fade = fade ∧ c.entries.Perm es ∧
        (c.entries.map (·.load)).Pairwise (· < ·) ∧ u.scenes.free = room - es.length ∧
        (∀ m, m ≠ n → u.scenes.scenes.get m = s.scenes.scenes.get m) ∧ s.Answers u .ok [] ∧
        u = { s with now := max s.now t, scenes := u.scenes, port := u.port })) ∧
  ∀ (s : State) (t : Nat) (n : SceneIx), s.Executing 0x41#8 [byte n.val] →
    ∃ u, exec (.deleteScene t) s = .next u ∧
      (s.scenes.scenes.get n = none → s.Refuses u t .state) ∧
      (∀ c, s.scenes.scenes.get n = some c → u.scenes.scenes.get n = none ∧
        u.scenes.free = s.scenes.free + c.entries.length ∧
        (∀ m, m ≠ n → u.scenes.scenes.get m = s.scenes.scenes.get m) ∧ s.Answers u .ok [] ∧
        u = { s with now := max s.now t, scenes := u.scenes, port := u.port })

/-- RECALL_SCENE is refused with INHIBITED in inhibit and then with STATE where the scene is undefined;
otherwise it claims every entry whose load is ACTIVE with origin SCENE(n) and the override or the scene's
fade, passes the others by, and returns how many it applied and skipped (R130, R131). -/
def Obligations.RecallSceneClaimsActiveLoads : Prop :=
  ∀ (s : State) (t : Nat) (n : SceneIx) (present : Bool) (override : Nat), override < 65536 →
    (present = true → override ≤ 6000) →
    s.Executing 0x43#8 (byte n.val :: flagByte present :: word override) →
    ∃ u, exec (.recallScene t) s = .next u ∧
      (s.firing.inhibit = true → s.Refuses u t .inhibited) ∧
      (s.firing.inhibit = false → s.scenes.scenes.get n = none → s.Refuses u t .state) ∧
      ∀ c, s.firing.inhibit = false → s.scenes.scenes.get n = some c →
        (c.entries.map (·.load)).Nodup →
        let fade := if present then override else c.fade
        let applied := (c.entries.filter fun e => decide ((s.load e.load).state = .active)).length
        (∀ e ∈ c.entries, (s.load e.load).state = .active → u.load e.load =
          (s.load e.load).claimed e.level fade (s.halfPeriodOf (s.load e.load)) (.scene n)) ∧
        (∀ m, ¬ ((s.load m).state = .active ∧ ∃ e ∈ c.entries, e.load = m) → u.load m = s.load m) ∧
        s.Answers u .ok [byte applied, byte (c.entries.length - applied)] ∧
        u = { s with now := max s.now t, loads := u.loads, port := u.port }

/-! ### Station commands -/

/-- CONFIGURE_LINK in range stores the four settings; turning the link off stops every hold and marks the
poll in flight for discard with no Poll frame before its window ends (log 15), turning it on begins a new
round with its choice, and an unchanged link_enable touches neither polling nor holds (R142, R143, R146). -/
def Obligations.ConfigureLinkStoresAndSwitches : Prop :=
  ∀ (s : State) (t : Nat) (on : Bool) (step expiry fade : Nat), 1 ≤ step → step ≤ 50 → 200 ≤ expiry →
    expiry ≤ 5000 → fade ≤ 6000 →
    s.Executing 0x50#8 (flagByte on :: byte step :: (word expiry ++ word fade)) →
    let stored : StationLink := { s.link with
      enable := on, holdStep := step, holdExpiry := expiry, offFade := fade }
    ∃ u, exec (.configureLink t) s = .next u ∧ s.Answers u .ok [] ∧
      u = { s with now := max s.now t, loads := u.loads, link := u.link, port := u.port } ∧
      (s.link.enable = on → u.link = stored ∧ u.loads = s.loads) ∧
      (s.link.enable = false → on = true → u.loads = s.loads ∧
        StationLink.Chooses { stored with roundPosition := none, rediscovered := false } u.link) ∧
      (s.link.enable = true → on = false →
        (∀ i, u.slot i = { s.slot i with hold := none }) ∧
        (∀ n, (s.load n).holdStopped (fun i => (s.slot i).hold.isSome = true) (u.load n)) ∧
        u.link = { stored with
          slots := u.link.slots
          poll := s.link.poll.map fun q => { q with discard := some .stopped }
          nextPollAt := (s.link.poll.map fun q => max s.link.nextPollAt q.windowEnd).getD
            s.link.nextPollAt
          chosen := none })

/-- ENROLL_STATION with an address of 1 to 31: STATE where a slot in use holds the address, NO_SPACE where
none is EMPTY, else the lowest EMPTY slot becomes OFFLINE with the carried address and zones (R139); with no
slot in use before, polling begins with a new round and its choice (R146, log 24). REMOVE_STATION refuses an
EMPTY slot with STATE, else stops its hold, empties it and marks its poll in flight for discard (R140); a
removed slot that was chosen for the next Poll frame is chosen anew (DESIGN CHOICE, log 14). -/
def Obligations.EnrollAndRemoveStation : Prop :=
  ∀ (s : State) (t : Nat), s.LinkOk →
    (∀ (address : Nat) (zones : ZoneSet), 1 ≤ address → address ≤ 31 →
      s.Executing 0x51#8 [byte address, zones] →
      let taken := ∃ i e, (s.slot i).station = some e ∧ e.address = address
      ∃ u, exec (.enrollStation t) s = .next u ∧ (taken → s.Refuses u t .state) ∧
        (¬ taken → (∀ i, (s.slot i).state ≠ .empty) → s.Refuses u t .noSpace) ∧
        ∀ i, ¬ taken → (s.slot i).state = .empty → (∀ j, j < i → (s.slot j).state ≠ .empty) →
          u.slot i = ⟨.offline, some ⟨address, zones⟩, none, .nothing, 0, none⟩ ∧
          (∀ j, j ≠ i → u.slot j = s.slot j) ∧ s.Answers u .ok [byte i.val] ∧
          u = { s with now := max s.now t, link := u.link, port := u.port } ∧
          let enrolled : StationLink := { s.link with slots := u.link.slots }
          (if ∀ j, (s.slot j).state = .empty then
            StationLink.Chooses { enrolled with roundPosition := none, rediscovered := false } u.link
          else u.link = enrolled)) ∧
    ∀ i : SlotIx, s.Executing 0x52#8 [byte i.val] →
      ∃ u, exec (.removeStation t) s = .next u ∧
        ((s.slot i).state = .empty → s.Refuses u t .state) ∧
        ((s.slot i).state ≠ .empty → u.slot i = StationSlot.vacated ∧
          (∀ j, j ≠ i → u.slot j = s.slot j) ∧ s.Answers u .ok [] ∧
          ((s.slot i).hold ≠ none → ∀ n, (s.load n).holdStopped (· = i) (u.load n)) ∧
          ((s.slot i).hold = none → u.loads = s.loads) ∧
          (∀ q, s.link.poll = some q → q.slot = i → ∃ d, u.link.poll = some { q with discard := some d }) ∧
          ((∀ q, s.link.poll = some q → q.slot ≠ i) → u.link.poll = s.link.poll) ∧
          u = { s with now := max s.now t, loads := u.loads, link := u.link, port := u.port } ∧
          let left : StationLink := { s.link with slots := u.link.slots, poll := u.link.poll }
          (if s.link.chosen = some (.online i) ∨ s.link.chosen = some (.rediscovery i) then
            left.Chooses u.link
          else u.link = left))

/-! ### Attention, output and system commands -/

/-- SET_EVENT_MASK replaces the whole mask with the carried set, at once for ATTN and for the ATTENTION
flag of its own response, and touches no detail; a value that names anything else is refused with
BAD_ARGUMENT and leaves the mask as it was (R181). -/
def Obligations.SetEventMaskReplacesMask : Prop :=
  ∀ (s : State) (t : Nat),
    (∀ mask : BitVec 6, s.Executing 0x62#8 [mask.setWidth 8] →
      ∃ u, exec (.setEventMask t) s = .next u ∧ s.Answers u .ok [] ∧
        u = { s with now := max s.now t, attention := { s.attention with mask := mask }, port := u.port } ∧
        (u.attn = true ↔ ∃ c, s.attention.isPending c = true ∧ mask.getLsbD c.bit = false)) ∧
    ∀ b : Byte, 64 ≤ b.toNat → s.Executing 0x62#8 [b] →
      ∃ u, exec (.setEventMask t) s = .next u ∧ s.Refuses u t .badArgument

/-- ALL_OFF, in every state of the part, makes the one-time actions of an ALLOFF assertion without
entering inhibit, raises all_off_command and returns OK (R89). -/
def Obligations.AllOffCommandTakesLoadsOff : Prop :=
  ∀ (s : State) (t : Nat), s.RecordsOk → s.Executing 0x70#8 [] →
    ∃ u, exec (.allOff t) s = .next u ∧ s.TakenOff u ∧ u.firing.inhibit = s.firing.inhibit ∧
      s.Answers u .ok [] ∧
      u = { s with
        now := max s.now t
        loads := u.loads
        firing := u.firing
        monitor := u.monitor
        link := u.link
        attention := { s.attention with safety := { s.attention.safety with allOffCommand := true } }
        port := u.port }

/-- RESTART makes the soft-reset action of every block: records VACANT, trackers ABSENT or OFF with the
line configuration kept, no firing, no monitoring, Commit Unit IDLE at 0, scenes kept, every slot in use
OFFLINE, the poll in flight discarded with no Poll frame before its window ends and no 200 µs added after
that (DESIGN CHOICE, log 15), a new round with its choice (R146), every detail emptied but SAFETY restarted,
the mask kept, ALLOFF judged (R26, R46, R90, R91, R105, R119, R137, R162, R173, R183). -/
def Obligations.RestartMakesSoftReset : Prop :=
  ∀ (s : State) (t : Nat), s.Executing 0x7F#8 [] →
    ∃ u, exec (.restart t) s = .next u ∧ s.Answers u .ok [] ∧ (∀ n, u.load n = Record.vacant) ∧
      (∀ l, u.trackers.get l =
        ⟨if s.lineConfig.enable.get l then .absent else .off, 0, 0⟩) ∧
      (∀ i, u.slot i = if (s.slot i).state = .empty then s.slot i else
        ⟨.offline, (s.slot i).station, none, .nothing, 0, none⟩) ∧
      u = { s with
        now := max s.now t
        loads := u.loads
        trackers := u.trackers
        firing := ⟨.fill [], [], [], [], s.allOff⟩
        monitor := ⟨[], .fill none⟩
        commit := ⟨.idle, [], 0⟩
        link := u.link
        attention := { Attention.cleared s.attention.mask with
          safety := ⟨true, s.allOff, false, false⟩ }
        port := u.port } ∧
      StationLink.Chooses { s.link with
        slots := u.link.slots
        poll := s.link.poll.map fun q => { q with discard := some .stopped }
        nextPollAt := (s.link.poll.map fun q => max s.link.nextPollAt q.windowEnd).getD
          s.link.nextPollAt
        roundPosition := none
        rediscovered := false
        pointer := 7 } u.link

/-- CONFIGURE_LINES in range stores the six settings; a tracker whose enable does not change keeps its
state, one that is enabled goes to ABSENT, and one that is disabled to OFF. Where it was tracking that is a
line loss: LINE lost, its loads without gate activity, its list, waiting entries and quiet sample gone, its
members applied, and every other record kept (R29, R30, R42). -/
def Obligations.ConfigureLinesMovesTrackers : Prop :=
  ∀ (s : State) (t : Nat) (a b c : Bool) (front back nominal : Nat), 300 ≤ front → front ≤ 2000 →
    200 ≤ back → back ≤ 2000 → front + back ≤ 4000 → 7000 ≤ nominal → nominal ≤ 11500 →
    s.Executing 0x10#8 (byte (a.toNat + 2 * b.toNat + 4 * c.toNat) ::
      (word front ++ word back ++ word nominal)) →
    let enable : PerLine Bool := ⟨a, b, c⟩
    let lost := fun l =>
      s.lineConfig.enable.get l = true ∧ enable.get l = false ∧ s.tracks l = true
    ∃ u, exec (.configureLines t) s = .next u ∧ s.Answers u .ok [] ∧
      u.lineConfig = ⟨enable, front, back, nominal⟩ ∧
      (∀ l, u.trackers.get l =
        if s.lineConfig.enable.get l = enable.get l then s.trackers.get l
        else { s.trackers.get l with lock := if enable.get l then .absent else .off }) ∧
      (∀ l n, lost l → (s.load n).onLine l = true → u.NoGateActivity n) ∧
      (∀ l, lost l → u.firing.lists.get l = [] ∧ (∀ e ∈ u.firing.waiting, e.line ≠ l) ∧
        u.monitor.quiet.get l = none) ∧
      (∀ n, (∃ l, lost l ∧ s.waitsOn l n = true) → u.load n = (s.load n).applyStaged) ∧
      (∀ n, (∀ l, lost l → s.waitsOn l n = false) → u.load n = s.load n) ∧
      (∀ m, m ∈ u.commit.members ↔ m ∈ s.commit.members ∧ ∀ l, lost l → s.waitsOn l m.load = false) ∧
      (∀ l, lost l → ∀ m ∈ u.commit.members, m.line ≠ l) ∧
      (∀ l, (u.attention.line.get l).lost = true ↔ lost l ∨ (s.attention.line.get l).lost = true) ∧
      (∀ l, u.attention.line.get l = { s.attention.line.get l with lost := (u.attention.line.get l).lost }) ∧
      u.attention = { s.attention with line := u.attention.line, commit := u.attention.commit } ∧
      ((∀ l, ¬ lost l) →
        u = { s with
          now := max s.now t, lineConfig := u.lineConfig, trackers := u.trackers, port := u.port }) ∧
      u = { s with
        now := max s.now t, lineConfig := u.lineConfig, trackers := u.trackers, loads := u.loads
        firing := u.firing, monitor := u.monitor, commit := u.commit, attention := u.attention
        port := u.port }
end

