-- ==== Sys2Proof/Laws/Table.lean ====
section
/-!
SUPPORT. What the operations of `Table` and `PerLine` give when a cell is read.
-/

namespace Sys2Proof.Table

variable {n : Nat} {α : Type}

@[simp] theorem get_ofFn (f : Fin n → α) (i : Fin n) : (ofFn f).get i = f i := by
  simp [get, ofFn]

@[simp] theorem get_fill (a : α) (i : Fin n) : (fill n a).get i = a := by simp [fill]

@[simp] theorem get_mapIx (f : Fin n → α → α) (t : Table n α) (i : Fin n) :
    (t.mapIx f).get i = f i (t.get i) := by simp [mapIx]

theorem get_modify (t : Table n α) (i j : Fin n) (f : α → α) :
    (t.modify i f).get j = if j = i then f (t.get j) else t.get j := by simp [modify]

@[simp] theorem get_modify_self (t : Table n α) (i : Fin n) (f : α → α) :
    (t.modify i f).get i = f (t.get i) := by simp [get_modify]

@[simp] theorem get_modify_ne (t : Table n α) {i j : Fin n} (h : j ≠ i) (f : α → α) :
    (t.modify i f).get j = t.get j := by simp [get_modify, h]

@[simp] theorem get_set_self (t : Table n α) (i : Fin n) (a : α) : (t.set i a).get i = a := by
  simp [set]

@[simp] theorem get_set_ne (t : Table n α) {i j : Fin n} (h : j ≠ i) (a : α) :
    (t.set i a).get j = t.get j := by simp [set, h]

/-- Tables are equal where their cells are. -/
theorem ext_get {t u : Table n α} (h : ∀ i, t.get i = u.get i) : t = u := by
  obtain ⟨xs, hx⟩ := t
  obtain ⟨ys, hy⟩ := u
  have : xs = ys := List.ext_getElem (hx.trans hy.symm) fun i h1 _ => h ⟨i, hx ▸ h1⟩
  subst this
  rfl

end Sys2Proof.Table

namespace Sys2Proof.Machine.PerLine

variable {α : Type}

@[simp] theorem get_fill (x : α) (l : Line) : (fill x).get l = x := by cases l <;> rfl

@[simp] theorem get_set_self (p : PerLine α) (l : Line) (x : α) : (p.set l x).get l = x := by
  cases l <;> rfl

@[simp] theorem get_set_ne (p : PerLine α) {l m : Line} (h : m ≠ l) (x : α) :
    (p.set l x).get m = p.get m := by cases l <;> cases m <;> first | rfl | exact absurd rfl h

@[simp] theorem get_map (f : Line → α → α) (p : PerLine α) (l : Line) :
    (p.map f).get l = f l (p.get l) := by cases l <;> rfl

theorem ext_get {p q : PerLine α} (h : ∀ l, p.get l = q.get l) : p = q := by
  obtain ⟨a, b, c⟩ := p
  obtain ⟨d, e, f⟩ := q
  have ha : a = d := h .a
  have hb : b = e := h .b
  have hc : c = f := h .c
  rw [ha, hb, hc]

end Sys2Proof.Machine.PerLine
end

