-- ==== Sys2Proof/Laws/State.lean ====
section
/-!
SUPPORT. Each field of `State` after each named update: what it becomes, or that it is untouched.
-/

namespace Sys2Proof.Machine.State

variable (s : State)

/-! ### at -/

@[simp] theorem at_now (t : Nat) : (s.at t).now = max s.now t := rfl
@[simp] theorem at_rstLow (t : Nat) : (s.at t).rstLow = s.rstLow := rfl
@[simp] theorem at_allOff (t : Nat) : (s.at t).allOff = s.allOff := rfl
@[simp] theorem at_zc (t : Nat) : (s.at t).zc = s.zc := rfl
@[simp] theorem at_sense (t : Nat) : (s.at t).sense = s.sense := rfl
@[simp] theorem at_loads (t : Nat) : (s.at t).loads = s.loads := rfl
@[simp] theorem at_trackers (t : Nat) : (s.at t).trackers = s.trackers := rfl
@[simp] theorem at_lineConfig (t : Nat) : (s.at t).lineConfig = s.lineConfig := rfl
@[simp] theorem at_firing (t : Nat) : (s.at t).firing = s.firing := rfl
@[simp] theorem at_monitor (t : Nat) : (s.at t).monitor = s.monitor := rfl
@[simp] theorem at_commit (t : Nat) : (s.at t).commit = s.commit := rfl
@[simp] theorem at_scenes (t : Nat) : (s.at t).scenes = s.scenes := rfl
@[simp] theorem at_link (t : Nat) : (s.at t).link = s.link := rfl
@[simp] theorem at_port (t : Nat) : (s.at t).port = s.port := rfl
@[simp] theorem at_attention (t : Nat) : (s.at t).attention = s.attention := rfl
@[simp] theorem at_pending (t : Nat) : (s.at t).pending = s.pending := rfl

/-! ### modifyLoad -/

@[simp] theorem modifyLoad_now (n : LoadIx) (f : Record → Record) : (s.modifyLoad n f).now = s.now := rfl
@[simp] theorem modifyLoad_rstLow (n : LoadIx) (f : Record → Record) :
    (s.modifyLoad n f).rstLow = s.rstLow := rfl
@[simp] theorem modifyLoad_allOff (n : LoadIx) (f : Record → Record) :
    (s.modifyLoad n f).allOff = s.allOff := rfl
@[simp] theorem modifyLoad_zc (n : LoadIx) (f : Record → Record) : (s.modifyLoad n f).zc = s.zc := rfl
@[simp] theorem modifyLoad_sense (n : LoadIx) (f : Record → Record) :
    (s.modifyLoad n f).sense = s.sense := rfl
@[simp] theorem modifyLoad_loads (n : LoadIx) (f : Record → Record) :
    (s.modifyLoad n f).loads = s.loads.modify n f := rfl
@[simp] theorem modifyLoad_trackers (n : LoadIx) (f : Record → Record) :
    (s.modifyLoad n f).trackers = s.trackers := rfl
@[simp] theorem modifyLoad_lineConfig (n : LoadIx) (f : Record → Record) :
    (s.modifyLoad n f).lineConfig = s.lineConfig := rfl
@[simp] theorem modifyLoad_firing (n : LoadIx) (f : Record → Record) :
    (s.modifyLoad n f).firing = s.firing := rfl
@[simp] theorem modifyLoad_monitor (n : LoadIx) (f : Record → Record) :
    (s.modifyLoad n f).monitor = s.monitor := rfl
@[simp] theorem modifyLoad_commit (n : LoadIx) (f : Record → Record) :
    (s.modifyLoad n f).commit = s.commit := rfl
@[simp] theorem modifyLoad_scenes (n : LoadIx) (f : Record → Record) :
    (s.modifyLoad n f).scenes = s.scenes := rfl
@[simp] theorem modifyLoad_link (n : LoadIx) (f : Record → Record) :
    (s.modifyLoad n f).link = s.link := rfl
@[simp] theorem modifyLoad_port (n : LoadIx) (f : Record → Record) :
    (s.modifyLoad n f).port = s.port := rfl
@[simp] theorem modifyLoad_attention (n : LoadIx) (f : Record → Record) :
    (s.modifyLoad n f).attention = s.attention := rfl
@[simp] theorem modifyLoad_pending (n : LoadIx) (f : Record → Record) :
    (s.modifyLoad n f).pending = s.pending := rfl

/-! ### mapLoads -/

@[simp] theorem mapLoads_now (f : LoadIx → Record → Record) : (s.mapLoads f).now = s.now := rfl
@[simp] theorem mapLoads_rstLow (f : LoadIx → Record → Record) : (s.mapLoads f).rstLow = s.rstLow := rfl
@[simp] theorem mapLoads_allOff (f : LoadIx → Record → Record) : (s.mapLoads f).allOff = s.allOff := rfl
@[simp] theorem mapLoads_zc (f : LoadIx → Record → Record) : (s.mapLoads f).zc = s.zc := rfl
@[simp] theorem mapLoads_sense (f : LoadIx → Record → Record) : (s.mapLoads f).sense = s.sense := rfl
@[simp] theorem mapLoads_loads (f : LoadIx → Record → Record) :
    (s.mapLoads f).loads = s.loads.mapIx f := rfl
@[simp] theorem mapLoads_trackers (f : LoadIx → Record → Record) :
    (s.mapLoads f).trackers = s.trackers := rfl
@[simp] theorem mapLoads_lineConfig (f : LoadIx → Record → Record) :
    (s.mapLoads f).lineConfig = s.lineConfig := rfl
@[simp] theorem mapLoads_firing (f : LoadIx → Record → Record) : (s.mapLoads f).firing = s.firing := rfl
@[simp] theorem mapLoads_monitor (f : LoadIx → Record → Record) :
    (s.mapLoads f).monitor = s.monitor := rfl
@[simp] theorem mapLoads_commit (f : LoadIx → Record → Record) : (s.mapLoads f).commit = s.commit := rfl
@[simp] theorem mapLoads_scenes (f : LoadIx → Record → Record) : (s.mapLoads f).scenes = s.scenes := rfl
@[simp] theorem mapLoads_link (f : LoadIx → Record → Record) : (s.mapLoads f).link = s.link := rfl
@[simp] theorem mapLoads_port (f : LoadIx → Record → Record) : (s.mapLoads f).port = s.port := rfl
@[simp] theorem mapLoads_attention (f : LoadIx → Record → Record) :
    (s.mapLoads f).attention = s.attention := rfl
@[simp] theorem mapLoads_pending (f : LoadIx → Record → Record) :
    (s.mapLoads f).pending = s.pending := rfl

/-! ### modifySlot -/

@[simp] theorem modifySlot_now (i : SlotIx) (f : StationSlot → StationSlot) :
    (s.modifySlot i f).now = s.now := rfl
@[simp] theorem modifySlot_rstLow (i : SlotIx) (f : StationSlot → StationSlot) :
    (s.modifySlot i f).rstLow = s.rstLow := rfl
@[simp] theorem modifySlot_allOff (i : SlotIx) (f : StationSlot → StationSlot) :
    (s.modifySlot i f).allOff = s.allOff := rfl
@[simp] theorem modifySlot_zc (i : SlotIx) (f : StationSlot → StationSlot) :
    (s.modifySlot i f).zc = s.zc := rfl
@[simp] theorem modifySlot_sense (i : SlotIx) (f : StationSlot → StationSlot) :
    (s.modifySlot i f).sense = s.sense := rfl
@[simp] theorem modifySlot_loads (i : SlotIx) (f : StationSlot → StationSlot) :
    (s.modifySlot i f).loads = s.loads := rfl
@[simp] theorem modifySlot_trackers (i : SlotIx) (f : StationSlot → StationSlot) :
    (s.modifySlot i f).trackers = s.trackers := rfl
@[simp] theorem modifySlot_lineConfig (i : SlotIx) (f : StationSlot → StationSlot) :
    (s.modifySlot i f).lineConfig = s.lineConfig := rfl
@[simp] theorem modifySlot_firing (i : SlotIx) (f : StationSlot → StationSlot) :
    (s.modifySlot i f).firing = s.firing := rfl
@[simp] theorem modifySlot_monitor (i : SlotIx) (f : StationSlot → StationSlot) :
    (s.modifySlot i f).monitor = s.monitor := rfl
@[simp] theorem modifySlot_commit (i : SlotIx) (f : StationSlot → StationSlot) :
    (s.modifySlot i f).commit = s.commit := rfl
@[simp] theorem modifySlot_scenes (i : SlotIx) (f : StationSlot → StationSlot) :
    (s.modifySlot i f).scenes = s.scenes := rfl
@[simp] theorem modifySlot_link (i : SlotIx) (f : StationSlot → StationSlot) :
    (s.modifySlot i f).link = { s.link with slots := s.link.slots.modify i f } := rfl
@[simp] theorem modifySlot_port (i : SlotIx) (f : StationSlot → StationSlot) :
    (s.modifySlot i f).port = s.port := rfl
@[simp] theorem modifySlot_attention (i : SlotIx) (f : StationSlot → StationSlot) :
    (s.modifySlot i f).attention = s.attention := rfl
@[simp] theorem modifySlot_pending (i : SlotIx) (f : StationSlot → StationSlot) :
    (s.modifySlot i f).pending = s.pending := rfl

/-! ### cutLoads -/

@[simp] theorem cutLoads_now (p : LoadIx → Bool) : (s.cutLoads p).now = s.now := rfl
@[simp] theorem cutLoads_rstLow (p : LoadIx → Bool) : (s.cutLoads p).rstLow = s.rstLow := rfl
@[simp] theorem cutLoads_allOff (p : LoadIx → Bool) : (s.cutLoads p).allOff = s.allOff := rfl
@[simp] theorem cutLoads_zc (p : LoadIx → Bool) : (s.cutLoads p).zc = s.zc := rfl
@[simp] theorem cutLoads_sense (p : LoadIx → Bool) : (s.cutLoads p).sense = s.sense := rfl
@[simp] theorem cutLoads_loads (p : LoadIx → Bool) : (s.cutLoads p).loads = s.loads := rfl
@[simp] theorem cutLoads_trackers (p : LoadIx → Bool) : (s.cutLoads p).trackers = s.trackers := rfl
@[simp] theorem cutLoads_lineConfig (p : LoadIx → Bool) : (s.cutLoads p).lineConfig = s.lineConfig := rfl
@[simp] theorem cutLoads_firing (p : LoadIx → Bool) :
    (s.cutLoads p).firing = (s.firing.remove p).grant s.now := rfl
@[simp] theorem cutLoads_monitor (p : LoadIx → Bool) :
    (s.cutLoads p).monitor = s.monitor.removeChecks p := rfl
@[simp] theorem cutLoads_commit (p : LoadIx → Bool) : (s.cutLoads p).commit = s.commit := rfl
@[simp] theorem cutLoads_scenes (p : LoadIx → Bool) : (s.cutLoads p).scenes = s.scenes := rfl
@[simp] theorem cutLoads_link (p : LoadIx → Bool) : (s.cutLoads p).link = s.link := rfl
@[simp] theorem cutLoads_port (p : LoadIx → Bool) : (s.cutLoads p).port = s.port := rfl
@[simp] theorem cutLoads_attention (p : LoadIx → Bool) : (s.cutLoads p).attention = s.attention := rfl
@[simp] theorem cutLoads_pending (p : LoadIx → Bool) : (s.cutLoads p).pending = s.pending := rfl

/-! ### skipLoads -/

@[simp] theorem skipLoads_now (p : LoadIx → Bool) : (s.skipLoads p).now = s.now := rfl
@[simp] theorem skipLoads_rstLow (p : LoadIx → Bool) : (s.skipLoads p).rstLow = s.rstLow := rfl
@[simp] theorem skipLoads_allOff (p : LoadIx → Bool) : (s.skipLoads p).allOff = s.allOff := rfl
@[simp] theorem skipLoads_zc (p : LoadIx → Bool) : (s.skipLoads p).zc = s.zc := rfl
@[simp] theorem skipLoads_sense (p : LoadIx → Bool) : (s.skipLoads p).sense = s.sense := rfl
@[simp] theorem skipLoads_trackers (p : LoadIx → Bool) : (s.skipLoads p).trackers = s.trackers := rfl
@[simp] theorem skipLoads_lineConfig (p : LoadIx → Bool) :
    (s.skipLoads p).lineConfig = s.lineConfig := rfl
@[simp] theorem skipLoads_firing (p : LoadIx → Bool) : (s.skipLoads p).firing = s.firing := rfl
@[simp] theorem skipLoads_monitor (p : LoadIx → Bool) : (s.skipLoads p).monitor = s.monitor := rfl
@[simp] theorem skipLoads_commit (p : LoadIx → Bool) : (s.skipLoads p).commit = s.commit := rfl
@[simp] theorem skipLoads_scenes (p : LoadIx → Bool) : (s.skipLoads p).scenes = s.scenes := rfl
@[simp] theorem skipLoads_link (p : LoadIx → Bool) : (s.skipLoads p).link = s.link := rfl
@[simp] theorem skipLoads_port (p : LoadIx → Bool) : (s.skipLoads p).port = s.port := rfl
@[simp] theorem skipLoads_attention (p : LoadIx → Bool) :
    (s.skipLoads p).attention = s.attention.reportSkips p := rfl
@[simp] theorem skipLoads_pending (p : LoadIx → Bool) : (s.skipLoads p).pending = s.pending := rfl

/-! ### stopHolds -/

@[simp] theorem stopHolds_now (p : SlotIx → Bool) : (s.stopHolds p).now = s.now := rfl
@[simp] theorem stopHolds_rstLow (p : SlotIx → Bool) : (s.stopHolds p).rstLow = s.rstLow := rfl
@[simp] theorem stopHolds_allOff (p : SlotIx → Bool) : (s.stopHolds p).allOff = s.allOff := rfl
@[simp] theorem stopHolds_zc (p : SlotIx → Bool) : (s.stopHolds p).zc = s.zc := rfl
@[simp] theorem stopHolds_sense (p : SlotIx → Bool) : (s.stopHolds p).sense = s.sense := rfl
@[simp] theorem stopHolds_trackers (p : SlotIx → Bool) : (s.stopHolds p).trackers = s.trackers := rfl
@[simp] theorem stopHolds_lineConfig (p : SlotIx → Bool) :
    (s.stopHolds p).lineConfig = s.lineConfig := rfl
@[simp] theorem stopHolds_firing (p : SlotIx → Bool) : (s.stopHolds p).firing = s.firing := rfl
@[simp] theorem stopHolds_monitor (p : SlotIx → Bool) : (s.stopHolds p).monitor = s.monitor := rfl
@[simp] theorem stopHolds_commit (p : SlotIx → Bool) : (s.stopHolds p).commit = s.commit := rfl
@[simp] theorem stopHolds_scenes (p : SlotIx → Bool) : (s.stopHolds p).scenes = s.scenes := rfl
@[simp] theorem stopHolds_port (p : SlotIx → Bool) : (s.stopHolds p).port = s.port := rfl
@[simp] theorem stopHolds_attention (p : SlotIx → Bool) : (s.stopHolds p).attention = s.attention := rfl
@[simp] theorem stopHolds_pending (p : SlotIx → Bool) : (s.stopHolds p).pending = s.pending := rfl

/-! ### stepRamps -/

@[simp] theorem stepRamps_now (l : Line) : (s.stepRamps l).now = s.now := rfl
@[simp] theorem stepRamps_rstLow (l : Line) : (s.stepRamps l).rstLow = s.rstLow := rfl
@[simp] theorem stepRamps_allOff (l : Line) : (s.stepRamps l).allOff = s.allOff := rfl
@[simp] theorem stepRamps_zc (l : Line) : (s.stepRamps l).zc = s.zc := rfl
@[simp] theorem stepRamps_sense (l : Line) : (s.stepRamps l).sense = s.sense := rfl
@[simp] theorem stepRamps_trackers (l : Line) : (s.stepRamps l).trackers = s.trackers := rfl
@[simp] theorem stepRamps_lineConfig (l : Line) : (s.stepRamps l).lineConfig = s.lineConfig := rfl
@[simp] theorem stepRamps_firing (l : Line) : (s.stepRamps l).firing = s.firing := rfl
@[simp] theorem stepRamps_monitor (l : Line) : (s.stepRamps l).monitor = s.monitor := rfl
@[simp] theorem stepRamps_commit (l : Line) : (s.stepRamps l).commit = s.commit := rfl
@[simp] theorem stepRamps_scenes (l : Line) : (s.stepRamps l).scenes = s.scenes := rfl
@[simp] theorem stepRamps_link (l : Line) : (s.stepRamps l).link = s.link := rfl
@[simp] theorem stepRamps_port (l : Line) : (s.stepRamps l).port = s.port := rfl
@[simp] theorem stepRamps_attention (l : Line) : (s.stepRamps l).attention = s.attention := rfl
@[simp] theorem stepRamps_pending (l : Line) : (s.stepRamps l).pending = s.pending := rfl

/-! ### decideBursts -/

@[simp] theorem decideBursts_now (b : Boundary) : (s.decideBursts b).now = s.now := rfl
@[simp] theorem decideBursts_rstLow (b : Boundary) : (s.decideBursts b).rstLow = s.rstLow := rfl
@[simp] theorem decideBursts_allOff (b : Boundary) : (s.decideBursts b).allOff = s.allOff := rfl
@[simp] theorem decideBursts_zc (b : Boundary) : (s.decideBursts b).zc = s.zc := rfl
@[simp] theorem decideBursts_sense (b : Boundary) : (s.decideBursts b).sense = s.sense := rfl
@[simp] theorem decideBursts_trackers (b : Boundary) : (s.decideBursts b).trackers = s.trackers := rfl
@[simp] theorem decideBursts_lineConfig (b : Boundary) :
    (s.decideBursts b).lineConfig = s.lineConfig := rfl
@[simp] theorem decideBursts_firing (b : Boundary) : (s.decideBursts b).firing = s.firing := rfl
@[simp] theorem decideBursts_monitor (b : Boundary) : (s.decideBursts b).monitor = s.monitor := rfl
@[simp] theorem decideBursts_commit (b : Boundary) : (s.decideBursts b).commit = s.commit := rfl
@[simp] theorem decideBursts_scenes (b : Boundary) : (s.decideBursts b).scenes = s.scenes := rfl
@[simp] theorem decideBursts_link (b : Boundary) : (s.decideBursts b).link = s.link := rfl
@[simp] theorem decideBursts_port (b : Boundary) : (s.decideBursts b).port = s.port := rfl
@[simp] theorem decideBursts_attention (b : Boundary) : (s.decideBursts b).attention = s.attention := rfl
@[simp] theorem decideBursts_pending (b : Boundary) : (s.decideBursts b).pending = s.pending := rfl

/-! ### buildList -/

@[simp] theorem buildList_now (b : Boundary) : (s.buildList b).now = s.now := rfl
@[simp] theorem buildList_rstLow (b : Boundary) : (s.buildList b).rstLow = s.rstLow := rfl
@[simp] theorem buildList_allOff (b : Boundary) : (s.buildList b).allOff = s.allOff := rfl
@[simp] theorem buildList_zc (b : Boundary) : (s.buildList b).zc = s.zc := rfl
@[simp] theorem buildList_sense (b : Boundary) : (s.buildList b).sense = s.sense := rfl
@[simp] theorem buildList_loads (b : Boundary) : (s.buildList b).loads = s.loads := rfl
@[simp] theorem buildList_trackers (b : Boundary) : (s.buildList b).trackers = s.trackers := rfl
@[simp] theorem buildList_lineConfig (b : Boundary) : (s.buildList b).lineConfig = s.lineConfig := rfl
@[simp] theorem buildList_monitor (b : Boundary) : (s.buildList b).monitor = s.monitor := rfl
@[simp] theorem buildList_commit (b : Boundary) : (s.buildList b).commit = s.commit := rfl
@[simp] theorem buildList_scenes (b : Boundary) : (s.buildList b).scenes = s.scenes := rfl
@[simp] theorem buildList_link (b : Boundary) : (s.buildList b).link = s.link := rfl
@[simp] theorem buildList_port (b : Boundary) : (s.buildList b).port = s.port := rfl
@[simp] theorem buildList_attention (b : Boundary) : (s.buildList b).attention = s.attention := rfl
@[simp] theorem buildList_pending (b : Boundary) : (s.buildList b).pending = s.pending := rfl

/-! ### formQuiet -/

@[simp] theorem formQuiet_now (b : Boundary) : (s.formQuiet b).now = s.now := rfl
@[simp] theorem formQuiet_rstLow (b : Boundary) : (s.formQuiet b).rstLow = s.rstLow := rfl
@[simp] theorem formQuiet_allOff (b : Boundary) : (s.formQuiet b).allOff = s.allOff := rfl
@[simp] theorem formQuiet_zc (b : Boundary) : (s.formQuiet b).zc = s.zc := rfl
@[simp] theorem formQuiet_sense (b : Boundary) : (s.formQuiet b).sense = s.sense := rfl
@[simp] theorem formQuiet_loads (b : Boundary) : (s.formQuiet b).loads = s.loads := rfl
@[simp] theorem formQuiet_trackers (b : Boundary) : (s.formQuiet b).trackers = s.trackers := rfl
@[simp] theorem formQuiet_lineConfig (b : Boundary) : (s.formQuiet b).lineConfig = s.lineConfig := rfl
@[simp] theorem formQuiet_firing (b : Boundary) : (s.formQuiet b).firing = s.firing := rfl
@[simp] theorem formQuiet_commit (b : Boundary) : (s.formQuiet b).commit = s.commit := rfl
@[simp] theorem formQuiet_scenes (b : Boundary) : (s.formQuiet b).scenes = s.scenes := rfl
@[simp] theorem formQuiet_link (b : Boundary) : (s.formQuiet b).link = s.link := rfl
@[simp] theorem formQuiet_port (b : Boundary) : (s.formQuiet b).port = s.port := rfl
@[simp] theorem formQuiet_attention (b : Boundary) : (s.formQuiet b).attention = s.attention := rfl
@[simp] theorem formQuiet_pending (b : Boundary) : (s.formQuiet b).pending = s.pending := rfl

/-! ### recallScene -/

@[simp] theorem recallScene_now (n : SceneIx) (es : List SceneEntry) (fade : Nat) (c : Caller) :
    (s.recallScene n es fade c).now = s.now := rfl
@[simp] theorem recallScene_rstLow (n : SceneIx) (es : List SceneEntry) (fade : Nat) (c : Caller) :
    (s.recallScene n es fade c).rstLow = s.rstLow := rfl
@[simp] theorem recallScene_allOff (n : SceneIx) (es : List SceneEntry) (fade : Nat) (c : Caller) :
    (s.recallScene n es fade c).allOff = s.allOff := rfl
@[simp] theorem recallScene_zc (n : SceneIx) (es : List SceneEntry) (fade : Nat) (c : Caller) :
    (s.recallScene n es fade c).zc = s.zc := rfl
@[simp] theorem recallScene_sense (n : SceneIx) (es : List SceneEntry) (fade : Nat) (c : Caller) :
    (s.recallScene n es fade c).sense = s.sense := rfl
@[simp] theorem recallScene_trackers (n : SceneIx) (es : List SceneEntry) (fade : Nat) (c : Caller) :
    (s.recallScene n es fade c).trackers = s.trackers := rfl
@[simp] theorem recallScene_lineConfig (n : SceneIx) (es : List SceneEntry) (fade : Nat) (c : Caller) :
    (s.recallScene n es fade c).lineConfig = s.lineConfig := rfl
@[simp] theorem recallScene_firing (n : SceneIx) (es : List SceneEntry) (fade : Nat) (c : Caller) :
    (s.recallScene n es fade c).firing = s.firing := rfl
@[simp] theorem recallScene_monitor (n : SceneIx) (es : List SceneEntry) (fade : Nat) (c : Caller) :
    (s.recallScene n es fade c).monitor = s.monitor := rfl
@[simp] theorem recallScene_commit (n : SceneIx) (es : List SceneEntry) (fade : Nat) (c : Caller) :
    (s.recallScene n es fade c).commit = s.commit := rfl
@[simp] theorem recallScene_scenes (n : SceneIx) (es : List SceneEntry) (fade : Nat) (c : Caller) :
    (s.recallScene n es fade c).scenes = s.scenes := rfl
@[simp] theorem recallScene_link (n : SceneIx) (es : List SceneEntry) (fade : Nat) (c : Caller) :
    (s.recallScene n es fade c).link = s.link := rfl
@[simp] theorem recallScene_port (n : SceneIx) (es : List SceneEntry) (fade : Nat) (c : Caller) :
    (s.recallScene n es fade c).port = s.port := rfl
@[simp] theorem recallScene_attention (n : SceneIx) (es : List SceneEntry) (fade : Nat) (c : Caller) :
    (s.recallScene n es fade c).attention = s.attention := rfl
@[simp] theorem recallScene_pending (n : SceneIx) (es : List SceneEntry) (fade : Nat) (c : Caller) :
    (s.recallScene n es fade c).pending = s.pending := rfl

/-! ### takeAllOff -/

@[simp] theorem takeAllOff_now : (s.takeAllOff).now = s.now := rfl
@[simp] theorem takeAllOff_rstLow : (s.takeAllOff).rstLow = s.rstLow := rfl
@[simp] theorem takeAllOff_allOff : (s.takeAllOff).allOff = s.allOff := rfl
@[simp] theorem takeAllOff_zc : (s.takeAllOff).zc = s.zc := rfl
@[simp] theorem takeAllOff_sense : (s.takeAllOff).sense = s.sense := rfl
@[simp] theorem takeAllOff_trackers : (s.takeAllOff).trackers = s.trackers := rfl
@[simp] theorem takeAllOff_lineConfig : (s.takeAllOff).lineConfig = s.lineConfig := rfl
@[simp] theorem takeAllOff_firing : (s.takeAllOff).firing = .reset s.firing.inhibit := rfl
@[simp] theorem takeAllOff_monitor : (s.takeAllOff).monitor = { s.monitor with checks := [] } := rfl
@[simp] theorem takeAllOff_commit : (s.takeAllOff).commit = s.commit := rfl
@[simp] theorem takeAllOff_scenes : (s.takeAllOff).scenes = s.scenes := rfl
@[simp] theorem takeAllOff_port : (s.takeAllOff).port = s.port := rfl
@[simp] theorem takeAllOff_attention : (s.takeAllOff).attention = s.attention := rfl
@[simp] theorem takeAllOff_pending : (s.takeAllOff).pending = s.pending := rfl

/-! ### endReset -/

@[simp] theorem endReset_now : (s.endReset).now = s.now := rfl
@[simp] theorem endReset_rstLow : (s.endReset).rstLow = s.rstLow := rfl
@[simp] theorem endReset_allOff : (s.endReset).allOff = s.allOff := rfl
@[simp] theorem endReset_zc : (s.endReset).zc = s.zc := rfl
@[simp] theorem endReset_sense : (s.endReset).sense = s.sense := rfl
@[simp] theorem endReset_loads : (s.endReset).loads = s.loads := rfl
@[simp] theorem endReset_trackers : (s.endReset).trackers = s.trackers := rfl
@[simp] theorem endReset_lineConfig : (s.endReset).lineConfig = s.lineConfig := rfl
@[simp] theorem endReset_firing : (s.endReset).firing = { s.firing with inhibit := s.allOff } := rfl
@[simp] theorem endReset_monitor : (s.endReset).monitor = s.monitor := rfl
@[simp] theorem endReset_commit : (s.endReset).commit = s.commit := rfl
@[simp] theorem endReset_scenes : (s.endReset).scenes = s.scenes := rfl
@[simp] theorem endReset_link : (s.endReset).link = s.link := rfl
@[simp] theorem endReset_port : (s.endReset).port = { s.port with openSince := s.now } := rfl
@[simp] theorem endReset_attention :
    (s.endReset).attention = .afterReset s.attention.mask s.allOff := rfl
@[simp] theorem endReset_pending : (s.endReset).pending = s.pending := rfl

/-! ### hardReset -/

@[simp] theorem hardReset_now : (s.hardReset).now = s.now := rfl
@[simp] theorem hardReset_rstLow : (s.hardReset).rstLow = s.rstLow := rfl
@[simp] theorem hardReset_allOff : (s.hardReset).allOff = s.allOff := rfl
@[simp] theorem hardReset_zc : (s.hardReset).zc = s.zc := rfl
@[simp] theorem hardReset_sense : (s.hardReset).sense = s.sense := rfl
@[simp] theorem hardReset_loads : (s.hardReset).loads = .fill 24 .vacant := rfl
@[simp] theorem hardReset_trackers : (s.hardReset).trackers = .fill (.reset true) := rfl
@[simp] theorem hardReset_lineConfig : (s.hardReset).lineConfig = .default := rfl
@[simp] theorem hardReset_firing : (s.hardReset).firing = .reset false := rfl
@[simp] theorem hardReset_monitor : (s.hardReset).monitor = .reset := rfl
@[simp] theorem hardReset_commit : (s.hardReset).commit = .reset := rfl
@[simp] theorem hardReset_scenes : (s.hardReset).scenes = .reset := rfl
@[simp] theorem hardReset_link : (s.hardReset).link = .reset := rfl
@[simp] theorem hardReset_port : (s.hardReset).port = .reset s.now := rfl
@[simp] theorem hardReset_attention : (s.hardReset).attention = .cleared 0 := rfl
@[simp] theorem hardReset_pending : (s.hardReset).pending = s.pending := rfl

/-! ### softReset -/

@[simp] theorem softReset_now : (s.softReset).now = s.now := rfl
@[simp] theorem softReset_rstLow : (s.softReset).rstLow = s.rstLow := rfl
@[simp] theorem softReset_allOff : (s.softReset).allOff = s.allOff := rfl
@[simp] theorem softReset_zc : (s.softReset).zc = s.zc := rfl
@[simp] theorem softReset_sense : (s.softReset).sense = s.sense := rfl
@[simp] theorem softReset_loads : (s.softReset).loads = .fill 24 .vacant := rfl
@[simp] theorem softReset_lineConfig : (s.softReset).lineConfig = s.lineConfig := rfl
@[simp] theorem softReset_firing : (s.softReset).firing = .reset s.allOff := rfl
@[simp] theorem softReset_monitor : (s.softReset).monitor = .reset := rfl
@[simp] theorem softReset_commit : (s.softReset).commit = .reset := rfl
@[simp] theorem softReset_scenes : (s.softReset).scenes = s.scenes := rfl
@[simp] theorem softReset_link : (s.softReset).link = s.link.softReset := rfl
@[simp] theorem softReset_port : (s.softReset).port = s.port := rfl
@[simp] theorem softReset_attention :
    (s.softReset).attention = .afterReset s.attention.mask s.allOff := rfl
@[simp] theorem softReset_pending : (s.softReset).pending = s.pending := rfl

/-! ### respond -/

@[simp] theorem respond_now (status : Status) (p : List Byte) : (s.respond status p).now = s.now := rfl
@[simp] theorem respond_rstLow (status : Status) (p : List Byte) : (s.respond status p).rstLow = s.rstLow := rfl
@[simp] theorem respond_allOff (status : Status) (p : List Byte) : (s.respond status p).allOff = s.allOff := rfl
@[simp] theorem respond_zc (status : Status) (p : List Byte) : (s.respond status p).zc = s.zc := rfl
@[simp] theorem respond_sense (status : Status) (p : List Byte) : (s.respond status p).sense = s.sense := rfl
@[simp] theorem respond_loads (status : Status) (p : List Byte) : (s.respond status p).loads = s.loads := rfl
@[simp] theorem respond_trackers (status : Status) (p : List Byte) : (s.respond status p).trackers = s.trackers := rfl
@[simp] theorem respond_lineConfig (status : Status) (p : List Byte) : (s.respond status p).lineConfig = s.lineConfig := rfl
@[simp] theorem respond_firing (status : Status) (p : List Byte) : (s.respond status p).firing = s.firing := rfl
@[simp] theorem respond_monitor (status : Status) (p : List Byte) : (s.respond status p).monitor = s.monitor := rfl
@[simp] theorem respond_commit (status : Status) (p : List Byte) : (s.respond status p).commit = s.commit := rfl
@[simp] theorem respond_scenes (status : Status) (p : List Byte) : (s.respond status p).scenes = s.scenes := rfl
@[simp] theorem respond_link (status : Status) (p : List Byte) : (s.respond status p).link = s.link := rfl
@[simp] theorem respond_attention (status : Status) (p : List Byte) : (s.respond status p).attention = s.attention := rfl
@[simp] theorem respond_pending (status : Status) (p : List Byte) : (s.respond status p).pending = s.pending := rfl

/-! ### sampleSense -/

@[simp] theorem sampleSense_now (n : LoadIx) (level : Bool) : (s.sampleSense n level).now = s.now := rfl
@[simp] theorem sampleSense_rstLow (n : LoadIx) (level : Bool) : (s.sampleSense n level).rstLow = s.rstLow := rfl
@[simp] theorem sampleSense_allOff (n : LoadIx) (level : Bool) : (s.sampleSense n level).allOff = s.allOff := rfl
@[simp] theorem sampleSense_zc (n : LoadIx) (level : Bool) : (s.sampleSense n level).zc = s.zc := rfl
@[simp] theorem sampleSense_loads (n : LoadIx) (level : Bool) : (s.sampleSense n level).loads = s.loads := rfl
@[simp] theorem sampleSense_trackers (n : LoadIx) (level : Bool) : (s.sampleSense n level).trackers = s.trackers := rfl
@[simp] theorem sampleSense_lineConfig (n : LoadIx) (level : Bool) : (s.sampleSense n level).lineConfig = s.lineConfig := rfl
@[simp] theorem sampleSense_firing (n : LoadIx) (level : Bool) : (s.sampleSense n level).firing = s.firing := rfl
@[simp] theorem sampleSense_monitor (n : LoadIx) (level : Bool) : (s.sampleSense n level).monitor = s.monitor := rfl
@[simp] theorem sampleSense_commit (n : LoadIx) (level : Bool) : (s.sampleSense n level).commit = s.commit := rfl
@[simp] theorem sampleSense_scenes (n : LoadIx) (level : Bool) : (s.sampleSense n level).scenes = s.scenes := rfl
@[simp] theorem sampleSense_link (n : LoadIx) (level : Bool) : (s.sampleSense n level).link = s.link := rfl
@[simp] theorem sampleSense_port (n : LoadIx) (level : Bool) : (s.sampleSense n level).port = s.port := rfl
@[simp] theorem sampleSense_attention (n : LoadIx) (level : Bool) : (s.sampleSense n level).attention = s.attention := rfl
@[simp] theorem sampleSense_pending (n : LoadIx) (level : Bool) : (s.sampleSense n level).pending = s.pending := rfl

/-! ### chooseNext -/

@[simp] theorem chooseNext_now : s.chooseNext.now = s.now := rfl
@[simp] theorem chooseNext_rstLow : s.chooseNext.rstLow = s.rstLow := rfl
@[simp] theorem chooseNext_allOff : s.chooseNext.allOff = s.allOff := rfl
@[simp] theorem chooseNext_zc : s.chooseNext.zc = s.zc := rfl
@[simp] theorem chooseNext_sense : s.chooseNext.sense = s.sense := rfl
@[simp] theorem chooseNext_loads : s.chooseNext.loads = s.loads := rfl
@[simp] theorem chooseNext_trackers : s.chooseNext.trackers = s.trackers := rfl
@[simp] theorem chooseNext_lineConfig : s.chooseNext.lineConfig = s.lineConfig := rfl
@[simp] theorem chooseNext_firing : s.chooseNext.firing = s.firing := rfl
@[simp] theorem chooseNext_monitor : s.chooseNext.monitor = s.monitor := rfl
@[simp] theorem chooseNext_commit : s.chooseNext.commit = s.commit := rfl
@[simp] theorem chooseNext_scenes : s.chooseNext.scenes = s.scenes := rfl
@[simp] theorem chooseNext_port : s.chooseNext.port = s.port := rfl
@[simp] theorem chooseNext_attention : s.chooseNext.attention = s.attention := rfl
@[simp] theorem chooseNext_pending : s.chooseNext.pending = s.pending := rfl
@[simp] theorem chooseNext_link : s.chooseNext.link = s.link.chooseNext := rfl

/-! ### completeCommit: only the Commit Unit's state and the COMMIT detail -/

@[simp] theorem completeCommit_now : s.completeCommit.now = s.now := by unfold completeCommit; split <;> rfl
@[simp] theorem completeCommit_rstLow : s.completeCommit.rstLow = s.rstLow := by unfold completeCommit; split <;> rfl
@[simp] theorem completeCommit_allOff : s.completeCommit.allOff = s.allOff := by unfold completeCommit; split <;> rfl
@[simp] theorem completeCommit_zc : s.completeCommit.zc = s.zc := by unfold completeCommit; split <;> rfl
@[simp] theorem completeCommit_sense : s.completeCommit.sense = s.sense := by unfold completeCommit; split <;> rfl
@[simp] theorem completeCommit_loads : s.completeCommit.loads = s.loads := by unfold completeCommit; split <;> rfl
@[simp] theorem completeCommit_trackers : s.completeCommit.trackers = s.trackers := by unfold completeCommit; split <;> rfl
@[simp] theorem completeCommit_lineConfig : s.completeCommit.lineConfig = s.lineConfig := by unfold completeCommit; split <;> rfl
@[simp] theorem completeCommit_firing : s.completeCommit.firing = s.firing := by unfold completeCommit; split <;> rfl
@[simp] theorem completeCommit_monitor : s.completeCommit.monitor = s.monitor := by unfold completeCommit; split <;> rfl
@[simp] theorem completeCommit_scenes : s.completeCommit.scenes = s.scenes := by unfold completeCommit; split <;> rfl
@[simp] theorem completeCommit_link : s.completeCommit.link = s.link := by unfold completeCommit; split <;> rfl
@[simp] theorem completeCommit_port : s.completeCommit.port = s.port := by unfold completeCommit; split <;> rfl
@[simp] theorem completeCommit_pending : s.completeCommit.pending = s.pending := by unfold completeCommit; split <;> rfl

/-! ### Records and slots -/

theorem load_def (n : LoadIx) : s.load n = s.loads.get n := rfl

@[simp] theorem at_load (t : Nat) (n : LoadIx) : (s.at t).load n = s.load n := rfl

@[simp] theorem at_slot (t : Nat) (i : SlotIx) : (s.at t).slot i = s.slot i := rfl

@[simp] theorem load_mapLoads (f : LoadIx → Record → Record) (n : LoadIx) :
    (s.mapLoads f).load n = f n (s.load n) := by simp [load_def]

@[simp] theorem load_modifyLoad_self (n : LoadIx) (f : Record → Record) :
    (s.modifyLoad n f).load n = f (s.load n) := by simp [load_def]

@[simp] theorem load_modifyLoad_ne {m n : LoadIx} (h : m ≠ n) (f : Record → Record) :
    (s.modifyLoad n f).load m = s.load m := by simp [load_def, h]

@[simp] theorem load_cutLoads (p : LoadIx → Bool) (n : LoadIx) : (s.cutLoads p).load n = s.load n := rfl

theorem load_skipLoads (p : LoadIx → Bool) (n : LoadIx) :
    (s.skipLoads p).load n =
      if p n then { s.load n with skipCount := min Config.saturation ((s.load n).skipCount + 1) }
      else s.load n := by simp [load_def, skipLoads]

@[simp] theorem slot_modifySlot_self (i : SlotIx) (f : StationSlot → StationSlot) :
    (s.modifySlot i f).slot i = f (s.slot i) := by simp [slot]

@[simp] theorem slot_modifySlot_ne {i j : SlotIx} (h : j ≠ i) (f : StationSlot → StationSlot) :
    (s.modifySlot i f).slot j = s.slot j := by simp [slot, h]

@[simp] theorem load_modifySlot (i : SlotIx) (f : StationSlot → StationSlot) (n : LoadIx) :
    (s.modifySlot i f).load n = s.load n := rfl

@[simp] theorem slot_modifyLoad (n : LoadIx) (f : Record → Record) (i : SlotIx) :
    (s.modifyLoad n f).slot i = s.slot i := rfl

@[simp] theorem slot_mapLoads (f : LoadIx → Record → Record) (i : SlotIx) :
    (s.mapLoads f).slot i = s.slot i := rfl

/-- A stop of holds settles the HOLD ramps of the slots of `p` and changes no other record (R64). -/
theorem load_stopHolds (p : SlotIx → Bool) (n : LoadIx) :
    (s.stopHolds p).load n =
      match (s.load n).ramp with
      | some ⟨_, .hold slot⟩ => if p slot then (s.load n).settle else s.load n
      | _ => s.load n := by
  exact Table.get_mapIx _ _ _

/-- A stop of holds removes the hold records of the slots of `p` (R157). -/
@[simp] theorem slot_stopHolds (p : SlotIx → Bool) (i : SlotIx) :
    (s.stopHolds p).slot i = if p i then { s.slot i with hold := none } else s.slot i := by
  simp [slot, stopHolds]

end Sys2Proof.Machine.State
end

