-- ==== Sys2Proof/Laws/Firing.lean ====
section
/-!
SUPPORT. What the operations of the Firing Scheduler do: the slot grant, the removal of loads, the load
cut, arbitration, and insertion in order.
-/

namespace Sys2Proof.Machine

/-! ### Sets -/

@[simp] theorem hasLoad_loadsWhere (p : LoadIx → Bool) (n : LoadIx) : hasLoad (loadsWhere p) n = p n := by
  simp [hasLoad, loadsWhere]

@[simp] theorem hasLoad_or (a b : LoadSet) (n : LoadIx) : hasLoad (a ||| b) n = (hasLoad a n || hasLoad b n) := by
  simp [hasLoad]

@[simp] theorem hasLoad_sub (a : LoadSet) (p : LoadIx → Bool) (n : LoadIx) :
    hasLoad (a &&& ~~~ loadsWhere p) n = (hasLoad a n && !p n) := by
  have h := hasLoad_loadsWhere p n
  simp only [hasLoad] at h ⊢
  rw [BitVec.getLsbD_and, BitVec.getLsbD_not, h]
  simp

/-! ### Quiet samples -/

@[simp] theorem Monitor.leaveSamples_checks (m : Monitor) (p : LoadIx → Bool) :
    (m.leaveSamples p).checks = m.checks := rfl

@[simp] theorem Monitor.leaveSamples_quiet (m : Monitor) (p : LoadIx → Bool) (l : Line) :
    (m.leaveSamples p).quiet.get l =
      (m.quiet.get l).map fun q => { q with loads := q.loads &&& ~~~ loadsWhere p } := by
  simp [Monitor.leaveSamples]

/-- The loads of `p`, and no others, leave the untaken quiet samples (R18, R103, R104). -/
theorem State.leaveSample_leaveSamples {s u : State} {p : LoadIx → Bool} {l : Line}
    (h : u.monitor.quiet.get l = (s.monitor.leaveSamples p).quiet.get l) :
    s.LeaveSample u l (p · = true) := by
  constructor
  · intro hn
    simp [h, hn]
  · intro q hq
    exact ⟨q.loads &&& ~~~ loadsWhere p, by simp [h, hq], fun n => by simp⟩

/-! ### Insertion in order -/

theorem mem_insertBy {α : Type} (key : α → Nat × Nat) (x y : α) (xs : List α) :
    y ∈ insertBy key x xs ↔ y = x ∨ y ∈ xs := by
  induction xs with
  | nil => simp [insertBy]
  | cons z zs ih =>
    simp only [insertBy]
    split
    · simp
    · simp [ih]
      tauto

theorem mem_foldr_insertBy {α : Type} (key : α → Nat × Nat) (y : α) (xs : List α) :
    y ∈ xs.foldr (insertBy key) [] ↔ y ∈ xs := by
  induction xs with
  | nil => simp
  | cons z zs ih => simp [mem_insertBy, ih]

/-! ### The slot grant (R79) -/

/-- Everything a grant does: the slots gain started waiting entries, never past six; what waits waited
before; and no entry that could still start is left waiting beside a free slot. -/
theorem grantSlots_spec (now : Nat) (slots : List SlotPulse) (waiting : List PulseEntry) :
    (∃ granted : List PulseEntry, (grantSlots now slots waiting).1 = slots ++ granted.map (·.start now) ∧
      (∀ e ∈ granted, e ∈ waiting ∧ now ≤ e.latestStart)) ∧
    (∀ e ∈ (grantSlots now slots waiting).2, e ∈ waiting) ∧
    (grantSlots now slots waiting).1.length ≤ max slots.length Config.slotCount ∧
    ((grantSlots now slots waiting).1.length < Config.slotCount →
      ∀ e ∈ (grantSlots now slots waiting).2, e.latestStart < now) := by
  induction waiting generalizing slots with
  | nil =>
    refine ⟨⟨[], ?_, ?_⟩, ?_, ?_, ?_⟩ <;> simp [grantSlots]
  | cons e es ih =>
    rw [grantSlots]
    split
    · rename_i h
      obtain ⟨⟨granted, h1, h2⟩, h3, h4, h5⟩ := ih (slots ++ [e.start now])
      refine ⟨⟨e :: granted, ?_, ?_⟩, ?_, ?_, h5⟩
      · simp [h1]
      · intro x hx
        rcases List.mem_cons.1 hx with rfl | hx
        · exact ⟨List.mem_cons_self, h.2⟩
        · exact ⟨List.mem_cons_of_mem _ (h2 x hx).1, (h2 x hx).2⟩
      · intro x hx
        exact List.mem_cons_of_mem _ (h3 x hx)
      · simp only [List.length_append, List.length_singleton] at h4
        omega
    · rename_i h
      obtain ⟨⟨granted, h1, h2⟩, h3, h4, h5⟩ := ih slots
      refine ⟨⟨granted, h1, fun x hx => ⟨List.mem_cons_of_mem _ (h2 x hx).1, (h2 x hx).2⟩⟩, ?_, h4, ?_⟩
      · intro x hx
        rcases List.mem_cons.1 hx with rfl | hx
        · exact List.mem_cons_self
        · exact List.mem_cons_of_mem _ (h3 x hx)
      · intro hl x hx
        simp only at hl hx
        rcases List.mem_cons.1 hx with rfl | hx
        · have : slots.length ≤ (grantSlots now slots es).1.length := by simp [h1]
          omega
        · exact h5 hl x hx

namespace Firing

variable (f : Firing) (now : Nat)

@[simp] theorem grant_lists : (f.grant now).lists = f.lists := rfl

@[simp] theorem grant_held : (f.grant now).held = f.held := rfl

@[simp] theorem grant_inhibit : (f.grant now).inhibit = f.inhibit := rfl

/-- A pulse in a slot after a grant was in it before, or is a waiting entry that starts now. -/
theorem mem_grant_slots {x : SlotPulse} (h : x ∈ (f.grant now).slots) :
    x ∈ f.slots ∨ ∃ e ∈ f.waiting, x = e.start now := by
  obtain ⟨granted, h1, h2⟩ := (grantSlots_spec now f.slots f.waiting).1
  have h' : x ∈ f.slots ++ granted.map (·.start now) := h1 ▸ h
  rcases List.mem_append.1 h' with h' | h'
  · exact .inl h'
  · obtain ⟨e, he, rfl⟩ := List.mem_map.1 h'
    exact .inr ⟨e, (h2 e he).1, rfl⟩

/-- A grant takes no pulse out of its slot. -/
theorem mem_grant_of_mem {x : SlotPulse} (h : x ∈ f.slots) : x ∈ (f.grant now).slots := by
  obtain ⟨granted, h1, -⟩ := (grantSlots_spec now f.slots f.waiting).1
  exact (show (f.grant now).slots = _ from h1) ▸ List.mem_append_left _ h

theorem mem_grant_waiting {e : PulseEntry} (h : e ∈ (f.grant now).waiting) : e ∈ f.waiting :=
  (grantSlots_spec now f.slots f.waiting).2.1 e h

theorem grant_slots_length (h : f.slots.length ≤ Config.slotCount) :
    (f.grant now).slots.length ≤ Config.slotCount := by
  have := (grantSlots_spec now f.slots f.waiting).2.2.1
  exact this.trans (by omega)

variable (p : LoadIx → Bool)

@[simp] theorem mem_remove_slots {x : SlotPulse} :
    x ∈ (f.remove p).slots ↔ x ∈ f.slots ∧ p x.load = false := by simp [remove]

@[simp] theorem mem_remove_waiting {e : PulseEntry} :
    e ∈ (f.remove p).waiting ↔ e ∈ f.waiting ∧ p e.load = false := by simp [remove]

@[simp] theorem mem_remove_held {h : HeldDrive} :
    h ∈ (f.remove p).held ↔ h ∈ f.held ∧ p h.load = false := by simp [remove]

@[simp] theorem mem_remove_lists {l : Line} {e : FiringEntry} :
    e ∈ (f.remove p).lists.get l ↔ e ∈ f.lists.get l ∧ p e.load = false := by simp [remove]

@[simp] theorem remove_inhibit : (f.remove p).inhibit = f.inhibit := rfl

theorem remove_slots_length : (f.remove p).slots.length ≤ f.slots.length := List.length_filter_le _ _

/-- A pulse that goes to the arbiter starts in a free slot, or waits (R77). -/
theorem arbitrate_cases (e : PulseEntry) :
    (f.slots.length < Config.slotCount ∧
      f.arbitrate now e = { f with slots := f.slots ++ [e.start now] }) ∨
    (Config.slotCount ≤ f.slots.length ∧
      f.arbitrate now e = { f with waiting := insertBy PulseEntry.key e f.waiting }) := by
  unfold arbitrate
  split
  · exact .inl ⟨by assumption, rfl⟩
  · exact .inr ⟨by omega, rfl⟩

end Firing

/-! ### The load cut (R15) -/

/-- A cut leaves no gate activity of the loads it is made on. -/
theorem State.noGateActivity_cutLoads (s : State) {p : LoadIx → Bool} {n : LoadIx} (h : p n = true) :
    (s.cutLoads p).NoGateActivity n := by
  refine ⟨?_, ?_, ?_, ?_⟩
  · simp only [State.gate, Bool.or_eq_false_iff, List.any_eq_false, beq_iff_eq]
    refine ⟨fun x hx hn => ?_, fun x hx hn => ?_⟩
    · rcases Firing.mem_grant_slots _ _ hx with hx | ⟨e, he, rfl⟩
      · simp_all
      · have : e.load = n := hn
        simp_all
    · have hx' : x ∈ (s.firing.remove p).held := hx
      simp_all
  · intro e he hn
    have := Firing.mem_grant_waiting _ _ he
    simp_all
  · intro l e he hn
    have he' : e ∈ (s.firing.remove p).lists.get l := he
    simp_all
  · intro c hc hn
    simp [Monitor.removeChecks] at hc
    simp_all

/-- A cut of other loads starts no pulse of a load without gate activity. -/
theorem State.NoGateActivity.cutLoads {s : State} {n : LoadIx} (h : s.NoGateActivity n)
    (p : LoadIx → Bool) : (s.cutLoads p).NoGateActivity n := by
  obtain ⟨h1, h2, h3, h4⟩ := h
  simp only [State.gate, Bool.or_eq_false_iff, List.any_eq_false, beq_iff_eq] at h1
  refine ⟨?_, ?_, ?_, ?_⟩
  · simp only [State.gate, Bool.or_eq_false_iff, List.any_eq_false, beq_iff_eq]
    refine ⟨fun x hx hn => ?_, fun x hx hn => ?_⟩
    · rcases Firing.mem_grant_slots _ _ hx with hx | ⟨e, he, rfl⟩
      · exact h1.1 x ((Firing.mem_remove_slots _ _).1 hx).1 hn
      · exact h2 e ((Firing.mem_remove_waiting _ _).1 he).1 hn
    · have hx' : x ∈ (s.firing.remove p).held := hx
      exact h1.2 x ((Firing.mem_remove_held _ _).1 hx').1 hn
  · intro e he
    exact h2 e ((Firing.mem_remove_waiting _ _).1 (Firing.mem_grant_waiting _ _ he)).1
  · intro l e he
    have he' : e ∈ (s.firing.remove p).lists.get l := he
    exact h3 l e ((Firing.mem_remove_lists _ _).1 he').1
  · intro c hc
    simp [Monitor.removeChecks] at hc
    exact h4 c hc.1

end Sys2Proof.Machine
end

