-- ==== Sys2Proof/Laws/Records.lean ====
section
/-!
SUPPORT. What the operations on one record do: claims, holds, ramp steps, BURST decisions, applies, and
the fields each of them leaves alone.
-/

namespace Sys2Proof.Machine.Record

variable (r : Record)

/-- A claim with a fade, by the terms of the statements (R49, R52). -/
theorem claim_eq_claimed (target fade p : Nat) (origin : Origin) :
    r.claim target fade p origin = r.claimed target fade p origin := by
  unfold claim claimed
  by_cases h : fade = 0
  · simp [h]
  · by_cases h2 : target = r.currentLevel <;> simp [h, h2, stepCount, ceilDiv]

section claim

variable (target fade p : Nat) (origin : Origin)

@[simp] theorem claim_state : (r.claim target fade p origin).state = r.state := by
  unfold claim; split <;> (try split) <;> rfl

@[simp] theorem claim_config : (r.claim target fade p origin).config = r.config := by
  unfold claim; split <;> (try split) <;> rfl

@[simp] theorem claim_staged : (r.claim target fade p origin).staged = r.staged := by
  unfold claim; split <;> (try split) <;> rfl

/-- A claim makes no ramp but one of its own origin. -/
theorem claim_ramp {x : Ramp} (h : (r.claim target fade p origin).ramp = some x) : x.origin = origin := by
  unfold claim at h
  split at h
  · simp at h
  · split at h
    · simp at h
    · simp only [Option.some.injEq] at h
      rw [← h]

end claim

/-- A hold claim passes by a load at level 0 on LOWER (R63), and otherwise aims it at its limit (R62). -/
theorem claimHold_eq {c : LoadConfig} (hc : r.config = some c) (d : Direction) (step : Nat)
    (slot : SlotIx) :
    r.claimHold d step slot =
      if d = .lower ∧ r.currentLevel = 0 then r
      else { r with
        targetLevel := c.limit d
        ramp := if ((c.limit d : Int) - r.currentLevel).natAbs = 0 then none
          else some ⟨ceilDiv ((c.limit d : Int) - r.currentLevel).natAbs step, .hold slot⟩ } := by
  simp only [claimHold, hc]
  split
  · rfl
  · split
    · rename_i h
      simp [show c.limit d = r.currentLevel by omega]
    · simp

@[simp] theorem claimHold_state (d : Direction) (step : Nat) (slot : SlotIx) :
    (r.claimHold d step slot).state = r.state := by
  cases hc : r.config with
  | none => simp [claimHold, hc]
  | some c => rw [claimHold_eq r hc]; split <;> simp

@[simp] theorem claimHold_config (d : Direction) (step : Nat) (slot : SlotIx) :
    (r.claimHold d step slot).config = r.config := by
  cases hc : r.config with
  | none => simp [claimHold, hc]
  | some c => rw [claimHold_eq r hc]; split <;> simp [hc]

@[simp] theorem claimHold_staged (d : Direction) (step : Nat) (slot : SlotIx) :
    (r.claimHold d step slot).staged = r.staged := by
  cases hc : r.config with
  | none => simp [claimHold, hc]
  | some c => rw [claimHold_eq r hc]; split <;> simp

@[simp] theorem settle_state : r.settle.state = r.state := rfl

@[simp] theorem settle_config : r.settle.config = r.config := rfl

@[simp] theorem settle_staged : r.settle.staged = r.staged := rfl

@[simp] theorem settle_ramp : r.settle.ramp = none := rfl

@[simp] theorem rampStep_state : r.rampStep.state = r.state := by unfold rampStep; split <;> rfl

@[simp] theorem rampStep_config : r.rampStep.config = r.config := by unfold rampStep; split <;> rfl

@[simp] theorem rampStep_staged : r.rampStep.staged = r.staged := by unfold rampStep; split <;> rfl

/-- A ramp after its step is the ramp before it with one step less. -/
theorem rampStep_ramp {x : Ramp} (h : r.rampStep.ramp = some x) :
    ∃ y, r.ramp = some y ∧ x = { y with remaining := y.remaining - 1 } ∧ 2 ≤ y.remaining := by
  unfold rampStep at h
  split at h
  · simp_all
  · rename_i y hy
    simp only at h
    split at h
    · simp at h
    · refine ⟨y, hy, ?_, by omega⟩
      simpa using h.symm

@[simp] theorem decideBurst_state : r.decideBurst.state = r.state := by
  unfold decideBurst; dsimp only; split <;> rfl

@[simp] theorem decideBurst_config : r.decideBurst.config = r.config := by
  unfold decideBurst; dsimp only; split <;> rfl

@[simp] theorem decideBurst_staged : r.decideBurst.staged = r.staged := by
  unfold decideBurst; dsimp only; split <;> rfl

@[simp] theorem decideBurst_ramp : r.decideBurst.ramp = r.ramp := by
  unfold decideBurst; dsimp only; split <;> rfl

@[simp] theorem applyStaged_state : r.applyStaged.state = r.state := by unfold applyStaged; split <;> rfl

@[simp] theorem applyStaged_currentLevel : r.applyStaged.currentLevel = r.currentLevel := by
  unfold applyStaged; split <;> rfl

@[simp] theorem applyStaged_targetLevel : r.applyStaged.targetLevel = r.targetLevel := by
  unfold applyStaged; split <;> rfl

@[simp] theorem applyStaged_ramp : r.applyStaged.ramp = r.ramp := by unfold applyStaged; split <;> rfl

@[simp] theorem applyStaged_skipCount : r.applyStaged.skipCount = r.skipCount := by
  unfold applyStaged; split <;> rfl

@[simp] theorem applyStaged_stationLock : r.applyStaged.stationLock = r.stationLock := by
  unfold applyStaged; split <;> rfl

/-- A record without a copy is not changed by an apply. -/
theorem applyStaged_none (h : r.staged = none) : r.applyStaged = r := by simp [applyStaged, h]

/-- An apply that does not change the line leaves the load on its line (R115). -/
theorem onLine_applyStaged {l : Line} (hl : r.onLine l = true) (h : r.changesLine = false) :
    r.applyStaged.onLine l = true := by
  unfold changesLine at h
  unfold applyStaged
  split at h
  · simp_all
  · rename_i c hc
    simp only [Bool.not_eq_false'] at h
    simp only [onLine, decide_eq_true_eq, Option.map_eq_some_iff] at *
    obtain ⟨a, ha, rfl⟩ := hl
    obtain ⟨b, hb, hbl⟩ := h
    exact ⟨c, rfl, by simp_all⟩

end Sys2Proof.Machine.Record
end

