-- ==== Sys2Proof/Laws/Commit.lean ====
section
/-!
SUPPORT. What a commit apply does to the state, field by field, and the parts of a half-cycle boundary.
-/

namespace Sys2Proof.Machine.State

variable (s : State) (p : LoadIx → Bool)

@[simp] theorem load_completeCommit (n : LoadIx) : s.completeCommit.load n = s.load n := by
  simp [load_def]

/-- An apply puts the copies of the members of `p` in force and keeps every other record (R113). -/
@[simp] theorem load_applyMembers (n : LoadIx) :
    (s.applyMembers p).load n = if p n then (s.load n).applyStaged else s.load n := by
  simp [applyMembers, load_def]

@[simp] theorem applyMembers_now : (s.applyMembers p).now = s.now := by simp [applyMembers]

@[simp] theorem applyMembers_rstLow : (s.applyMembers p).rstLow = s.rstLow := by simp [applyMembers]

@[simp] theorem applyMembers_allOff : (s.applyMembers p).allOff = s.allOff := by simp [applyMembers]

@[simp] theorem applyMembers_zc : (s.applyMembers p).zc = s.zc := by simp [applyMembers]

@[simp] theorem applyMembers_sense : (s.applyMembers p).sense = s.sense := by simp [applyMembers]

@[simp] theorem applyMembers_trackers : (s.applyMembers p).trackers = s.trackers := by
  simp [applyMembers]

@[simp] theorem applyMembers_lineConfig : (s.applyMembers p).lineConfig = s.lineConfig := by
  simp [applyMembers]

@[simp] theorem applyMembers_scenes : (s.applyMembers p).scenes = s.scenes := by simp [applyMembers]

@[simp] theorem applyMembers_link : (s.applyMembers p).link = s.link := by simp [applyMembers]

@[simp] theorem applyMembers_port : (s.applyMembers p).port = s.port := by simp [applyMembers]

@[simp] theorem applyMembers_pending : (s.applyMembers p).pending = s.pending := by
  simp [applyMembers]

/-- The gates change by the cut of the members whose line changes, and by nothing else (R82, R115). -/
theorem applyMembers_firing : (s.applyMembers p).firing =
    (s.firing.remove fun n => p n && (s.load n).changesLine).grant s.now := by
  simp [applyMembers]

@[simp] theorem completeCommit_members : s.completeCommit.commit.members = s.commit.members := by
  unfold completeCommit; split <;> rfl

@[simp] theorem completeCommit_seq : s.completeCommit.commit.seq = s.commit.seq := by
  unfold completeCommit; split <;> rfl

@[simp] theorem applyMembers_members :
    (s.applyMembers p).commit.members = s.commit.members.filter fun m => !p m.load := by
  simp [applyMembers]

@[simp] theorem applyMembers_seq : (s.applyMembers p).commit.seq = s.commit.seq := by
  simp [applyMembers]

/-- A set that becomes empty completes the commit in the same action; otherwise the Commit Unit stays as
it is (R116). -/
theorem applyMembers_completes :
    (s.commit.state = .pending ∧ (s.commit.members.filter fun m => !p m.load) = [] ∧
      (s.applyMembers p).commit.state = .idle ∧
      (s.applyMembers p).attention = s.attention.reportCommit s.commit.seq) ∨
    (¬ (s.commit.state = .pending ∧ (s.commit.members.filter fun m => !p m.load) = []) ∧
      (s.applyMembers p).commit.state = s.commit.state ∧
      (s.applyMembers p).attention = s.attention) := by
  by_cases h : s.commit.state = .pending ∧ (s.commit.members.filter fun m => !p m.load) = []
  · refine .inl ⟨h.1, h.2, ?_, ?_⟩ <;> simp only [applyMembers, completeCommit] <;>
      (rw [if_pos (by exact h)]; try rfl)
  · refine .inr ⟨h, ?_, ?_⟩ <;> simp only [applyMembers, completeCommit] <;>
      (rw [if_neg (by exact h)]; try rfl)

/-! ### The parts of a boundary -/

@[simp] theorem load_stepRamps (l : Line) (n : LoadIx) : (s.stepRamps l).load n =
    if (s.load n).isActive && (s.load n).onLine l then (s.load n).rampStep else s.load n := by
  simp [stepRamps]

@[simp] theorem load_decideBursts (b : Boundary) (n : LoadIx) : (s.decideBursts b).load n =
    if b.polarity = .pos ∧ (s.load n).isActive && (s.load n).onLine b.line && (s.load n).inMode .burst
    then (s.load n).decideBurst else s.load n := by
  simp [decideBursts]

@[simp] theorem load_buildList (b : Boundary) (n : LoadIx) : (s.buildList b).load n = s.load n := rfl

@[simp] theorem load_formQuiet (b : Boundary) (n : LoadIx) : (s.formQuiet b).load n = s.load n := rfl

theorem load_dropList (l : Line) (n : LoadIx) : (s.dropList l).load n =
    if (s.firing.lists.get l).any (fun e => match e with
      | .pulse x => x.load == n
      | .held _ => false) then
      { s.load n with skipCount := min Config.saturation ((s.load n).skipCount + 1) }
    else s.load n := by
  unfold dropList
  exact load_skipLoads s _ n

/-- The Commit Unit, the trackers and the stations see a boundary only through the members it applies. -/
theorem announce_eq (b : Boundary) : s.announce b =
    ((((((s.applyMembers (s.waitsOn b.line)).stepRamps b.line).decideBursts b).dropList
      b.line).buildList b).formQuiet b) := rfl

@[simp] theorem announce_trackers (b : Boundary) : (s.announce b).trackers = s.trackers := by
  simp [announce_eq, dropList]

@[simp] theorem announce_link (b : Boundary) : (s.announce b).link = s.link := by
  simp [announce_eq, dropList]

@[simp] theorem announce_scenes (b : Boundary) : (s.announce b).scenes = s.scenes := by
  simp [announce_eq, dropList]

@[simp] theorem announce_port (b : Boundary) : (s.announce b).port = s.port := by
  simp [announce_eq, dropList]

@[simp] theorem announce_pending (b : Boundary) : (s.announce b).pending = s.pending := by
  simp [announce_eq, dropList]

@[simp] theorem announce_now (b : Boundary) : (s.announce b).now = s.now := by
  simp [announce_eq, dropList]

@[simp] theorem announce_members (b : Boundary) : (s.announce b).commit.members =
    s.commit.members.filter fun m => !s.waitsOn b.line m.load := by
  simp [announce_eq, dropList]

end Sys2Proof.Machine.State
end

