-- ==== Sys2Proof/Laws/Lines.lean ====
section
/-!
SUPPORT. What an event does in a tracker: when it keeps tracking, when it announces a boundary, and when it
reports a loss.
-/

namespace Sys2Proof.Machine

namespace Tracker

variable (x : Tracker) (cfg : LineConfig) (t : Nat) (level : Bool)

/-- An edge never takes a tracker out of LOCKED and HOLDOVER, and never reports a loss. -/
theorem edge_keeps :
    (x.lock.track.isSome = true → (x.edge cfg t level).tracker.lock.track.isSome = true) ∧
    (x.edge cfg t level).event ≠ some .lost := by
  unfold edge
  cases h : x.lock <;>
    simp only [stay, noise, declare, acquire, Lock.track] <;> (repeat' split) <;> simp_all

/-- The boundary an edge announces is that of the track it leaves. -/
theorem edge_boundary {k : Track} {d : Bool} (h : (x.edge cfg t level).boundary = some (k, d)) :
    (x.edge cfg t level).tracker.lock = .locked k ∧ d = true := by
  revert h
  unfold edge
  cases x.lock <;> simp only [stay, noise, declare, acquire] <;> (repeat' split) <;> simp_all

/-- A window close loses the line, or leaves a tracked line tracked. -/
theorem windowClose_keeps :
    (x.windowClose cfg t).event = some .lost ∨
    (x.lock.track.isSome = true → (x.windowClose cfg t).tracker.lock.track.isSome = true) := by
  unfold windowClose
  cases h : x.lock <;> simp only [stay, synthesize, Lock.track] <;> (repeat' split) <;> simp_all

theorem windowClose_boundary {k : Track} {d : Bool} (h : (x.windowClose cfg t).boundary = some (k, d)) :
    (∃ n, (x.windowClose cfg t).tracker.lock = .holdover k n) ∧ d = false := by
  revert h
  unfold windowClose
  cases x.lock <;> simp only [stay, synthesize] <;> (repeat' split) <;> simp_all

/-- A change of the enable announces no boundary, and loses the line where it was tracked. -/
theorem configure_keeps (before after : Bool) (hoff : before = false → x.lock = .off) :
    (x.configure before after).boundary = none ∧
    ((x.configure before after).event = some .lost ∨
      (x.lock.track.isSome = true → (x.configure before after).tracker.lock.track.isSome = true)) := by
  unfold configure
  cases h : x.lock <;> cases before <;> cases after <;> simp_all [stay, Lock.track]

theorem timeout_keeps (h : x.lock.track.isSome = true) : x.timeout t = x := by
  unfold timeout
  cases hx : x.lock <;> simp_all [Lock.track]

end Tracker

namespace State

variable (s : State) (l : Line)

/-- A line loss reaches neither the trackers nor the stations, scenes and port. -/
@[simp] theorem loseLine_trackers : (s.loseLine l).trackers = s.trackers := by simp [loseLine]

@[simp] theorem loseLine_link : (s.loseLine l).link = s.link := by simp [loseLine]

@[simp] theorem loseLine_scenes : (s.loseLine l).scenes = s.scenes := by simp [loseLine]

@[simp] theorem loseLine_port : (s.loseLine l).port = s.port := by simp [loseLine]

@[simp] theorem loseLine_pending : (s.loseLine l).pending = s.pending := by simp [loseLine]

@[simp] theorem load_loseLine (n : LoadIx) :
    (s.loseLine l).load n = if s.waitsOn l n then (s.load n).applyStaged else s.load n := by
  unfold loseLine
  dsimp only
  rw [load_applyMembers]
  simp [waitsOn, load_def]

/-- The trackers after a move: only the moved one changes. -/
@[simp] theorem moveTracker_trackers (m : Move) :
    (s.moveTracker l m).trackers = s.trackers.set l m.tracker := by
  unfold moveTracker lineEvent
  cases m.event with
  | none => cases m.boundary <;> simp
  | some e => cases e <;> cases m.boundary <;> simp

end State

end Sys2Proof.Machine
end

