-- ==== Sys2Proof/Laws/Port.lean ====
section
/-!
SUPPORT. The Command Unit: how a command is taken, checked and answered, and what a payload written
field by field reads as.
-/

namespace Sys2Proof.Machine

/-! ### Taking a command -/

theorem State.takes_high {s : State} (h : s.rstLow = false) (t : Nat) (f : State → State) :
    s.takes t f = .next (f (s.at t)) := by simp [takes, h]

theorem State.takes_low {s : State} (h : s.rstLow = true) (t : Nat) (f : State → State) :
    s.takes t f = .next (s.at t) := by simp [takes, h]

/-! ### Payload fields -/

theorem byte_toNat {n : Nat} (h : n < 256) : (byte n).toNat = n := by
  simp [byte, Nat.mod_eq_of_lt h]

theorem word_toNat {n : Nat} (h : n < 65536) :
    256 * (byte (n / 256)).toNat + (byte n).toNat = n := by
  simp only [byte, BitVec.toNat_ofNat]
  omega

@[simp] theorem byteAt_zero (b : Byte) (p : List Byte) : byteAt (b :: p) 0 = b.toNat := rfl

@[simp] theorem byteAt_succ (b : Byte) (p : List Byte) (i : Nat) :
    byteAt (b :: p) (i + 1) = byteAt p i := rfl

theorem word_eq (n : Nat) : word n = [byte (n / 256), byte n] := rfl

@[simp] theorem wordAt_word {n : Nat} (h : n < 65536) (p : List Byte) : wordAt (word n ++ p) 0 = n := by
  simpa [wordAt, word_eq] using word_toNat h

@[simp] theorem wordAt_succ (b : Byte) (p : List Byte) (i : Nat) :
    wordAt (b :: p) (i + 1) = wordAt p i := rfl

theorem indexAt_byte {k : Nat} (n : Fin k) (hk : k ≤ 256) (p : List Byte) :
    indexAt k (byte n.val :: p) 0 = some n := by
  have h : byteAt (byte n.val :: p) 0 = n.val := byte_toNat (n.isLt.trans_le hk)
  simp [indexAt, h]

theorem boolAt_flagByte (f : Bool) (p : List Byte) : boolAt (flagByte f :: p) 0 = some f := by
  cases f <;> rfl

@[simp] theorem boolAt_succ (b : Byte) (p : List Byte) (i : Nat) :
    boolAt (b :: p) (i + 1) = boolAt p i := rfl

/-! ### Checks -/

@[simp] theorem argument_some {α : Type} (a : α) : argument (some a) = .ok a := rfl

@[simp] theorem argument_none {α : Type} : argument (none : Option α) = .error .badArgument := rfl

@[simp] theorem require_true (failure : Status) : require true failure = .ok () := rfl

@[simp] theorem require_false (failure : Status) : require false failure = .error failure := rfl

@[simp] theorem ok_bind {α β : Type} (a : α) (f : α → Except Status β) :
    (Except.ok a >>= f) = f a := rfl

@[simp] theorem error_bind {α β : Type} (e : Status) (f : α → Except Status β) :
    ((Except.error e : Except Status α) >>= f) = .error e := rfl

/-! ### Answers -/

theorem State.answers_respond (s : State) (status : Status) (p : List Byte) :
    s.Answers (s.respond status p) status p := rfl

theorem State.attn_respond (s : State) (status : Status) (p : List Byte) :
    (s.respond status p).attn = s.attn := rfl

@[simp] theorem State.answerWith_ok (s u : State) (p : List Byte) :
    s.answerWith (.ok (u, p)) = u.respond .ok p := rfl

@[simp] theorem State.answerWith_error (s : State) (status : Status) :
    s.answerWith (.error status) = s.respond status [] := rfl

/-- A held frame that is intact and of the length its code requires is answered by the command's body. -/
theorem State.Executing.execute {s : State} {code : Byte} {p : List Byte} (h : s.Executing code p)
    (t : Nat) {r : LengthRule} (hr : lengthRule code = some r) (hp : r.holds p = true)
    (body : List Byte → State → CommandResult) :
    (s.at t).execute code body = (s.at t).answerWith (body p (s.at t)) := by
  obtain ⟨-, f, hf, hparse⟩ := h
  have hi : (s.at t).intactFrame = some ⟨code, p⟩ := by
    simp [State.intactFrame, hf, hparse]
  simp [State.execute, hi, hr, hp]

/-- What an execution command answers where its frame is held and of the length its code requires. -/
theorem State.Executing.answers {s : State} {code : Byte} {p : List Byte} (h : s.Executing code p)
    (t : Nat) {r : LengthRule} (hr : lengthRule code = some r) (hp : r.holds p = true)
    (body : List Byte → State → CommandResult) :
    s.takes t (fun s => s.execute code body) = .next ((s.at t).answerWith (body p (s.at t))) := by
  rw [State.takes_high h.1, h.execute t hr hp]

/-- Where the length is not the one the code requires the answer is BAD_FRAME (R167). -/
theorem State.Executing.badLength {s : State} {code : Byte} {p : List Byte} (h : s.Executing code p)
    (t : Nat) {r : LengthRule} (hr : lengthRule code = some r) (hp : r.holds p = false)
    (body : List Byte → State → CommandResult) :
    s.takes t (fun s => s.execute code body) = .next ((s.at t).respond .badFrame []) := by
  obtain ⟨hl, f, hf, hparse⟩ := h
  have hi : (s.at t).intactFrame = some ⟨code, p⟩ := by simp [State.intactFrame, hf, hparse]
  rw [State.takes_high hl]
  simp [State.execute, hi, hr, hp]

theorem State.refuses_respond (s : State) (t : Nat) (status : Status) :
    s.Refuses ((s.at t).respond status []) t status := ⟨rfl, rfl⟩

theorem State.reports_respond (s : State) (t : Nat) (p : List Byte) :
    s.Reports ((s.at t).respond .ok p) t p := ⟨rfl, rfl⟩

/-- A command whose only effect is on one record. -/
theorem State.setsRecord_modifyLoad (s : State) (t : Nat) (n : LoadIx) (f : Record → Record) :
    s.SetsRecord (((s.at t).modifyLoad n f).respond .ok []) t n (f (s.load n)) :=
  ⟨State.load_modifyLoad_self (s.at t) n f, fun _ hm => State.load_modifyLoad_ne (s.at t) hm f, rfl, rfl⟩

/-- A configuration set reads back as it was sent, with a carried miss_limit of 0 held as 4 (R3, R186). -/
theorem configAt_configBytes (b : Byte) {c : LoadConfig} {carried : Nat} (hc : c.valid = true)
    (hm : c.missLimit = if carried = 0 then 4 else carried) (hle : carried ≤ 15) :
    configAt (b :: configBytes { c with missLimit := carried }) 1 = some c := by
  obtain ⟨line, mode, mn, mx, pw, pc, se, ml, z⟩ := c
  have hv := hc
  simp only [LoadConfig.valid, Bool.and_eq_true, decide_eq_true_eq] at hc
  obtain ⟨⟨⟨⟨⟨⟨⟨⟨⟨⟨⟨_, a2⟩, _⟩, a4⟩, _⟩, a6⟩, _⟩, a8⟩, _⟩, _⟩, _⟩, _⟩ := hc
  have hl : lineOfCode (byte (lineCode line)).toNat = some line := by cases line <;> rfl
  have hmo : modeOfCode (byte (modeCode mode)).toNat = some mode := by cases mode <;> rfl
  have e1 := word_toNat (n := mn) (by omega)
  have e2 := word_toNat (n := mx) (by omega)
  have e3 := word_toNat (n := pw) (by omega)
  have e4 : (byte pc).toNat = pc := byte_toNat (by omega)
  have e5 : (byte carried).toNat = carried := byte_toNat (by omega)
  simp only at hm
  simp [configAt, configBytes, word_eq, wordAt, hl, hmo, e1, e2, e3, e4, e5, boolAt_flagByte, ← hm, hv]

end Sys2Proof.Machine
end

