-- ==== Sys2Proof/Laws/Stations.lean ====
section
/-!
SUPPORT. Polls and requests: which slot a round picks, and what a valid Reply leads to.
-/

namespace Sys2Proof.Machine

theorem Table.fin_lt_iff {n : Nat} {i j : Fin n} : i < j ↔ i.val < j.val := Iff.rfl

namespace State

/-- A poll that awaits a Reply is listening (R144, R145). -/
theorem Awaits.listening {s : State} {t : Nat} {q : Poll} (h : s.Awaits t q) :
    (s.at t).listening = some q := by
  obtain ⟨-, hq, -, ha, h1, h2, -⟩ := h
  simp only [State.listening, State.at_link, hq]
  exact if_pos ⟨h1, h2, ha⟩

/-- A valid Reply of a kind the row takes ends the poll and acts on the polled slot, and the next slot is
chosen (R145 to R147). -/
theorem Awaits.takeReply {s : State} {t : Nat} {q : Poll} (h : s.Awaits t q) {frame : List Byte}
    {handle : Request → Option (SlotIx → State → State)} {r : Request} {f : SlotIx → State → State}
    (hr : parseReply q.address frame = some r) (hf : handle r = some f) :
    (s.at t).takeReply frame handle =
      State.chooseNext (f q.slot (State.answer { s.at t with
        link := { s.link with poll := none, nextPollAt := max s.now t + 200 } } q.slot)) := by
  have hd := h.2.2.1
  simp only [State.takeReply, h.listening, hr, Option.bind_some, hf, hd]
  simp [StationLink.endPoll, h.2.1, hd, State.at]

/-- Answering a slot makes it ONLINE with no failure, and reports a slot that was OFFLINE (R147). -/
theorem slot_answer_self (s : State) (i : SlotIx) (h : (s.slot i).state ≠ .empty) :
    (s.answer i).slot i = { s.slot i with state := .online, failCount := 0 } := by
  unfold State.answer
  split
  · exact State.slot_modifySlot_self s i _
  · rename_i h2
    rw [State.slot_modifySlot_self]
    cases hx : (s.slot i).state <;> simp_all

theorem slot_answer_ne (s : State) {i j : SlotIx} (h : j ≠ i) : (s.answer i).slot j = s.slot j := by
  unfold State.answer
  split
  · exact State.slot_modifySlot_ne s h _
  · exact State.slot_modifySlot_ne s h _

@[simp] theorem load_answer (s : State) (i : SlotIx) (n : LoadIx) : (s.answer i).load n = s.load n := by
  unfold State.answer; split <;> rfl

/-- The three outcomes of a request other than IDLE: duplicate, refused, carried out (R149, R150). -/
theorem judge_duplicate {s : State} {i : SlotIx} {b : Bool} (h : (s.slot i).lastSeq = some b)
    (why : Option Reason) (f : State → State) : s.judge i b why f = s := by simp [State.judge, h]

theorem judge_refused {s : State} {i : SlotIx} {b : Bool} (h : (s.slot i).lastSeq ≠ some b)
    (why : Reason) (f : State → State) : s.judge i b (some why) f =
      let s1 := s.modifySlot i fun x => { x with lastSeq := some b, lastResult := .refused why }
      { s1 with attention := s1.attention.reportStation i fun d => { d with refused := true } } := by
  simp [State.judge, h]

theorem judge_accepted {s : State} {i : SlotIx} {b : Bool} (h : (s.slot i).lastSeq ≠ some b)
    (f : State → State) : s.judge i b none f =
      f (s.modifySlot i fun x => { x with lastSeq := some b, lastResult := .accepted }) := by
  simp [State.judge, h]

end State

namespace StationLink

variable (k : StationLink)

/-- The first index that satisfies a test. -/
theorem find_finRange_eq_some {n : Nat} (p : Fin n → Bool) (i : Fin n) :
    (List.finRange n).find? p = some i ↔ p i = true ∧ ∀ j, j < i → ¬ p j = true := by
  rw [List.find?_eq_some_iff_getElem]
  simp only [List.getElem_finRange, List.length_finRange, Bool.not_eq_true', ← Bool.not_eq_true]
  constructor
  · rintro ⟨h, m, hm, rfl, h3⟩
    exact ⟨h, fun j hj => h3 j.val hj⟩
  · rintro ⟨h, h2⟩
    exact ⟨h, i.val, i.isLt, rfl, fun j hj => h2 ⟨j, hj.trans i.isLt⟩ hj⟩

/-- In a list ordered by `f` the first element that satisfies a test is the least one that does. -/
theorem find_eq_some_of_pairwise {α : Type} (f : α → Nat) (p : α → Bool) (i : α) {xs : List α}
    (h : xs.Pairwise fun x y => f x < f y) :
    xs.find? p = some i ↔ i ∈ xs ∧ p i = true ∧ ∀ j ∈ xs, p j = true → f i ≤ f j := by
  induction xs with
  | nil => simp
  | cons x xs ih =>
    obtain ⟨hx, hxs⟩ := List.pairwise_cons.1 h
    by_cases hp : p x = true
    · simp only [List.find?_cons, hp, Option.some.injEq, List.mem_cons]
      constructor
      · rintro rfl
        exact ⟨.inl rfl, hp, fun j hj _ => hj.elim (fun e => e ▸ le_rfl) fun hj => (hx j hj).le⟩
      · rintro ⟨hi | hi, -, h3⟩
        · exact hi.symm
        · have := h3 x (.inl rfl) hp
          have := hx i hi
          omega
    · simp only [List.find?_cons, hp, ih hxs, List.mem_cons]
      constructor
      · rintro ⟨h1, h2, h3⟩
        exact ⟨.inr h1, h2, fun j hj hq => hj.elim (fun e => absurd (e ▸ hq) hp) fun hj => h3 j hj hq⟩
      · rintro ⟨h1 | h1, h2, h3⟩
        · exact absurd (h1 ▸ h2) hp
        · exact ⟨h1, h2, fun j hj hq => h3 j (.inr hj) hq⟩

/-- The ONLINE part of a round picks the lowest ONLINE slot ahead of the round position (R146). -/
theorem nextOnline_eq_some (i : SlotIx) :
    k.nextOnline = some i ↔ k.Ahead i ∧ ∀ j, j < i → ¬ k.Ahead j := by
  unfold nextOnline Ahead
  rw [find_finRange_eq_some]
  cases k.roundPosition <;> simp

theorem nextOnline_eq_none : k.nextOnline = none ↔ ∀ i, ¬ k.Ahead i := by
  unfold nextOnline
  rw [List.find?_eq_none]
  simp only [List.mem_finRange, true_implies, Ahead]
  constructor
  · intro h i hi
    have := h i
    cases hr : k.roundPosition <;> simp_all
  · intro h i
    have := h i
    cases hr : k.roundPosition <;> simp_all

/-- The rediscovery part picks the OFFLINE slot that the rotation reaches first (R146). -/
theorem nextOffline_eq_some (i : SlotIx) :
    k.nextOffline = some i ↔ (k.slots.get i).state = .offline ∧
      ∀ j, (k.slots.get j).state = .offline → k.turns i ≤ k.turns j := by
  have order : ∀ m : SlotIx, (((List.finRange 8).filter fun i => decide (m < i)) ++
      (List.finRange 8).filter fun i => decide (i ≤ m)).Pairwise fun x y =>
        (x.val + 7 - m.val) % 8 < (y.val + 7 - m.val) % 8 := by decide
  unfold nextOffline turns
  rw [find_eq_some_of_pairwise _ _ _ (order k.pointer)]
  simp [lt_or_ge]

/-- A choice in the round is the pick of R146. -/
theorem chooseInRound_eq_some (c : Choice) : k.chooseInRound = some c ↔ k.Picks c := by
  unfold chooseInRound
  by_cases hr : k.rediscovered = true
  · cases c <;> simp [hr, Picks]
  · simp only [hr, Bool.false_eq_true, if_false]
    split
    · rename_i i hi
      have h := (k.nextOnline_eq_some i).1 hi
      cases c with
      | online j =>
        simp only [Option.some.injEq, Choice.online.injEq, Picks, ← nextOnline_eq_some, hi]
        simp [hr]
      | rediscovery j => simp [Picks, hr]; exact fun h2 => absurd h.1 (h2 i)
    · rename_i hn
      have h := k.nextOnline_eq_none.1 hn
      cases c with
      | online j => simp [Picks, h]
      | rediscovery j =>
        simp only [Option.map_eq_some_iff, Choice.rediscovery.injEq, exists_eq_right, Picks]
        simp [nextOffline_eq_some, hr, h]

/-! ### The fields a choice leaves alone -/

@[simp] theorem chooseNext_enable : k.chooseNext.enable = k.enable := by
  unfold chooseNext; (repeat' split) <;> rfl

@[simp] theorem chooseNext_slots : k.chooseNext.slots = k.slots := by
  unfold chooseNext; (repeat' split) <;> rfl

@[simp] theorem chooseNext_poll : k.chooseNext.poll = k.poll := by
  unfold chooseNext; (repeat' split) <;> rfl

@[simp] theorem chooseNext_nextPollAt : k.chooseNext.nextPollAt = k.nextPollAt := by
  unfold chooseNext; (repeat' split) <;> rfl

@[simp] theorem chooseNext_pointer : k.chooseNext.pointer = k.pointer := by
  unfold chooseNext; (repeat' split) <;> rfl

@[simp] theorem chooseNext_holdStep : k.chooseNext.holdStep = k.holdStep := by
  unfold chooseNext; (repeat' split) <;> rfl

@[simp] theorem chooseNext_holdExpiry : k.chooseNext.holdExpiry = k.holdExpiry := by
  unfold chooseNext; (repeat' split) <;> rfl

@[simp] theorem chooseNext_offFade : k.chooseNext.offFade = k.offFade := by
  unfold chooseNext; (repeat' split) <;> rfl

@[simp] theorem chooseNext_ltx : k.chooseNext.ltx = k.ltx := by
  unfold chooseNext; (repeat' split) <;> rfl

end StationLink

end Sys2Proof.Machine
end

