-- ==== Sys2Proof/Tests/Slice0.lean ====
section
/-!
SUPPORT. The model's own tests: the checks of WellFormed on ill-formed commands, the worked examples of the
spec command by command, and for every claim with hypotheses a state and operands that meet them.
-/

namespace Sys2Proof.Tests

set_option Elab.async false

open Sys2Proof.Machine

/-! ### Helpers -/

/-- The state after a command; the reset state where it stops. -/
def run (c : Instr) (s : State) : State :=
  match exec c s with
  | .next u => u
  | .fault _ => .reset
  | .refused _ => .reset

/-- `s` with a frame under execution. -/
def holding (s : State) (code : Byte) (p : List Byte) : State :=
  { s with port := { s.port with unit := .executing (commandFrame code p) } }

/-- Status and payload of the response held. -/
def response (s : State) : Option (Status × List Byte) :=
  match s.port.unit with
  | .responseReady r => some (r.status, r.payload)
  | .idle => none
  | .executing _ => none

/-- The response of `c` executing a frame with this code and payload. -/
def answer (c : Instr) (code : Byte) (p : List Byte) (s : State) : Option (Status × List Byte) :=
  response (run c (holding s code p))

theorem holding_executes {s : State} (h : s.rstLow = false) {code : Byte} {p : List Byte}
    (hp : parseFrame (commandFrame code p) = some ⟨code, p⟩) : (holding s code p).Executing code p :=
  ⟨h, _, rfl, hp⟩

def withLoads (s : State) (f : LoadIx → Record) : State := { s with loads := .ofFn f }

def withLock (s : State) (l : Line) (k : Lock) : State :=
  { s with trackers := s.trackers.set l { s.trackers.get l with lock := k } }

/-- A track at P = 10000 with the default guards, last boundary at `b`. -/
def trackAt (b : Nat) : Track := ⟨10000, b, .pos, 300, 400⟩

/-- The configuration of load 5 in 1.10, step 2. -/
def lamp : LoadConfig := ⟨.a, .phaseLead, 150, 900, 100, 2, true, 4, 0x05#8⟩

def activeAt (c : LoadConfig) (level : Nat) : Record :=
  { Record.vacant with state := .active, config := some c, currentLevel := level, targetLevel := level }

def definedWith (c : LoadConfig) : Record := { Record.vacant with state := .defined, config := some c }

/-- Line A LOCKED since 0, and every load VACANT. -/
def dark : State := withLock .reset .a (.locked (trackAt 0))

/-- `dark` with load 5 as `r`. -/
def with5 (r : Record) : State := withLoads dark fun n => if n = 5 then r else .vacant

/-! ### WellFormed -/

def replyIdle : List Byte := replyFrame 12 true .idle
def replyRecall : List Byte := replyFrame 12 true (.recall 7 true)
def replyRaise : List Byte := replyFrame 12 false (.raiseStart 1 false)
def replyLower : List Byte := replyFrame 12 false (.lowerStart 1 false)
def replyStop : List Byte := replyFrame 12 false (.holdStop 1 false)
def replyOff : List Byte := replyFrame 12 false (.off 2 false)

theorem test_wellformed_replies :
    (Instr.idle 0 replyIdle).wellFormed ∧ (Instr.recall 0 replyRecall).wellFormed ∧
    (Instr.raiseStart 0 replyRaise).wellFormed ∧ (Instr.lowerStart 0 replyLower).wellFormed ∧
    (Instr.holdStop 0 replyStop).wellFormed ∧ (Instr.off 0 replyOff).wellFormed ∧
    (Instr.replyNotValid 0 [0x69#8, 12#8, 0#8, 0#8]).wellFormed := by decide +kernel

theorem test_illformed_reply_kinds :
    (Instr.idle 0 replyRecall).wellFormed = false ∧ (Instr.recall 0 replyIdle).wellFormed = false ∧
    (Instr.raiseStart 0 replyLower).wellFormed = false ∧
    (Instr.lowerStart 0 replyRaise).wellFormed = false ∧
    (Instr.holdStop 0 replyOff).wellFormed = false ∧ (Instr.off 0 replyStop).wellFormed = false := by
  decide +kernel

/-- An address that names no station, a byte past the length, a byte short, a wrong CRC-8. -/
theorem test_illformed_replies :
    (Instr.idle 0 (replyFrame 0 true .idle)).wellFormed = false ∧
    (Instr.idle 0 (replyFrame 32 true .idle)).wellFormed = false ∧
    (Instr.idle 0 (replyIdle ++ [0#8])).wellFormed = false ∧
    (Instr.recall 0 (replyRecall.take 4)).wellFormed = false ∧
    (Instr.idle 0 [0x69#8, 12#8, 0#8, 0#8]).wellFormed = false ∧
    (Instr.replyNotValid 0 [0x69#8, 12#8, 0#8]).wellFormed = false ∧
    (Instr.replyNotValid 0 (replyRecall ++ [0#8])).wellFormed = false := by decide +kernel

/-- CS cannot fall after it rises; a command write carries a frame; an ignored transaction names neither
kind. -/
theorem test_illformed_transactions :
    (Instr.commandWrite 5 6 [0#8]).wellFormed = false ∧ (Instr.commandWrite 6 5 []).wellFormed = false ∧
    (Instr.responseRead 5 6 0).wellFormed = false ∧
    (Instr.transactionIgnored 5 6 []).wellFormed = false ∧
    (Instr.transactionIgnored 6 5 [0xA1#8, 0#8]).wellFormed = false ∧
    (Instr.transactionIgnored 6 5 [0xA2#8]).wellFormed = false ∧
    (Instr.transactionIgnored 6 5 [0xA1#8]).wellFormed = true ∧
    (Instr.transactionIgnored 6 5 [0xA3#8, 0#8]).wellFormed = true := by decide +kernel

/-- No row of the table gives bits. -/
theorem test_no_row_has_bits (n w : Nat) : decodeTableWord n w = none := rfl

/-! ### Frames (11.5) -/

theorem test_read_pool_frame : commandFrame 0x44#8 [] = [0x3C#8, 0x44#8, 0x00#8, 0x14#8] ∧
    parseFrame [0x3C#8, 0x44#8, 0x00#8, 0x14#8] = some ⟨0x44#8, []⟩ ∧
    parseFrame [0x3C#8, 0x44#8, 0x00#8, 0x15#8] = none := by decide +kernel

theorem test_read_pool_response :
    let s := { holding dark 0x44#8 [] with scenes := { dark.scenes with free := 14 } }
    let u := run (.responseRead 2 1 5) (run (.readPool 1) s)
    u.port.sdo.take 4 = [0x00#8, 0x04#8, 0x01#8, 0x0E#8] ∧ u.port.unit = .idle := by decide +kernel

/-! ### Loads (1.10, 1.11) -/

def set5 (c : LoadConfig) (carried : Nat) : List Byte := 5#8 :: configBytes { c with missLimit := carried }

theorem test_define_load :
    answer (.defineLoad 1) 0x20#8 (set5 { lamp with pulseWidth := 700, pulseCount := 3 } 0) dark =
      some (.badArgument, []) ∧
    (run (.defineLoad 1) (holding dark 0x20#8 (set5 lamp 0))).load 5 = definedWith lamp ∧
    answer (.defineLoad 1) 0x20#8 (set5 lamp 0) (with5 (definedWith lamp)) = some (.state, []) := by
  decide +kernel

theorem test_enable_load :
    (run (.enableLoad 1) (holding (with5 (definedWith lamp)) 0x21#8 [5#8])).load 5 = activeAt lamp 0 ∧
    answer (.enableLoad 1) 0x21#8 [5#8] { with5 (definedWith lamp) with firing := .reset true } =
      some (.inhibited, []) := by decide +kernel

theorem test_set_level :
    ((run (.setLevel 1) (holding (with5 (activeAt lamp 0)) 0x24#8 [5#8, 0#8, 100#8, 0#8, 0#8])).load
      5).effective = 150 ∧
    ((run (.setLevel 1) (holding (with5 (activeAt lamp 0)) 0x24#8 [5#8, 3#8, 0xB6#8, 0#8, 0#8])).load
      5).effective = 900 := by decide +kernel

theorem test_read_load :
    let s := with5 { activeAt lamp 950 with skipCount := 2 }
    answer (.readLoad 1) 0x27#8 [5#8] s = some (.ok,
      [2#8, 0#8, 0#8, 0#8, 150#8, 3#8, 0x84#8, 0#8, 100#8, 2#8, 1#8, 4#8, 5#8, 3#8, 0xB6#8, 3#8, 0xB6#8,
       3#8, 0x84#8, 0#8, 0#8, 0#8, 0#8, 0#8, 0#8, 0#8, 0#8, 0#8, 0#8, 0#8, 2#8, 0#8, 0#8]) ∧
    ((run (.readLoad 1) (holding s 0x27#8 [5#8])).load 5).skipCount = 0 := by decide +kernel

theorem test_lock_disable_release :
    ((run (.setLock 1) (holding (with5 (activeAt lamp 9)) 0x25#8 [5#8, 1#8])).load 5).stationLock = true ∧
    (run (.disableLoad 1) (holding (with5 (activeAt lamp 9)) 0x22#8 [5#8])).load 5 = definedWith lamp ∧
    (run (.releaseLoad 1) (holding (with5 (definedWith lamp)) 0x23#8 [5#8])).load 5 = .vacant := by
  decide +kernel

theorem test_clear_fault :
    (run (.clearFault 1) (holding (with5 ((activeAt lamp 9).fault .stuckOn)) 0x26#8 [5#8])).load 5 =
      definedWith lamp := by decide +kernel

/-- 1.11: the pulse in flight ends with the cut. -/
theorem test_disable_in_train :
    let s := { holding (with5 (activeAt lamp 9)) 0x22#8 [5#8] with
      firing := { Firing.reset false with slots := [⟨5, .a, 2, 300, 2, 4800, 9000⟩] } }
    s.gate 5 = true ∧ (run (.disableLoad 4620) s).gate 5 = false ∧
      (run (.disableLoad 4620) s).monitor.checks = [] := by decide +kernel

/-! ### Lines (2.10, 2.11) -/

theorem test_acquisition :
    let at_ := fun (k : Lock) (t : Nat) (high : Bool) =>
      ((run (.zeroCrossEdge t .a high) (withLock dark .a k)).trackers.a).lock
    at_ .absent 0 true = .acquiring 0 [] ∧
    at_ (.acquiring 20010 [9370]) 30000 false = .acquiring 30000 [] ∧
    at_ (.acquiring 30000 []) 40010 true = .acquiring 40010 [10010] ∧
    at_ (.acquiring 49990 [10010, 9980]) 60000 true = .locked ⟨10000, 60000, .pos, 300, 400⟩ := by
  decide +kernel

theorem test_acquisition_timeout :
    (run (.acquisitionTimeout 25000 .a) (withLock dark .a (.acquiring 0 [10010]))).trackers.a.lock =
      .absent := by decide +kernel

theorem test_tracking :
    let u1 := run (.zeroCrossEdge 70030 .a false) (withLock dark .a (.locked ⟨10000, 60000, .pos, 300, 400⟩))
    let u2 := run (.zeroCrossEdge 80020 .a true) (run (.zeroCrossEdge 75000 .a true) u1)
    u1.trackers.a = ⟨.locked ⟨10003, 70030, .neg, 300, 400⟩, 0, 1⟩ ∧
    u2.trackers.a = ⟨.locked ⟨10002, 80020, .pos, 300, 400⟩, 1, 2⟩ := by decide +kernel

theorem test_holdover_and_loss :
    let close := fun (k : Lock) (t : Nat) => run (.acceptanceWindowClose t .a) (withLock dark .a k)
    (close (.locked ⟨10002, 80020, .pos, 300, 400⟩) 90272).trackers.a.lock =
      .holdover ⟨10002, 90022, .neg, 300, 400⟩ 1 ∧
    (close (.holdover ⟨10002, 110026, .neg, 300, 400⟩ 3) 120278).trackers.a.lock = .absent ∧
    (close (.holdover ⟨10002, 110026, .neg, 300, 400⟩ 3) 120278).attention.line.a.lost = true := by
  decide +kernel

theorem test_read_line :
    let x : Tracker := ⟨.locked ⟨10002, 80020, .pos, 300, 400⟩, 2, 2⟩
    answer (.readLine 80030) 0x11#8 [0#8] { dark with trackers := dark.trackers.set .a x } =
      some (.ok, [3#8, 1#8, 0x27#8, 0x12#8, 1#8, 2#8, 0#8, 2#8]) := by decide +kernel

theorem test_configure_lines :
    let u := run (.configureLines 5) (holding dark 0x10#8 [0x06#8, 1#8, 0x2C#8, 1#8, 0x90#8, 0x20#8, 0x8D#8])
    u.lineConfig = ⟨⟨false, true, true⟩, 300, 400, 8333⟩ ∧ u.trackers.a.lock = .off ∧
      u.attention.line.a.lost = true ∧
    answer (.configureLines 5) 0x10#8 [0x08#8, 1#8, 0x2C#8, 1#8, 0x90#8, 0x20#8, 0x8D#8] dark =
      some (.badArgument, []) := by decide +kernel

/-- A disabled line is a loss (R30, R42). -/
theorem test_configure_lines_loss :
    let s := { with5 { activeAt lamp 300 with staged := some { lamp with line := .b } } with
      firing :=
        { lists := ⟨[.pulse ⟨5, .a, 3000, 2, 100, 2, 9500⟩], [], []⟩
          slots := [⟨5, .a, 1, 100, 2, 2050, 9500⟩]
          waiting := [⟨5, .a, 1900, 1, 100, 2, 9500⟩]
          held := []
          inhibit := false }
      monitor := ⟨[⟨5, 2100⟩], ⟨some ⟨150, 0x20#24⟩, none, none⟩⟩
      commit := ⟨.pending, [⟨5, .a⟩], 5⟩ }
    let u := run (.configureLines 5) (holding s 0x10#8 [0x06#8, 1#8, 0x2C#8, 1#8, 0x90#8, 0x20#8, 0x8D#8])
    s.tracks .a = true ∧ s.waitsOn .a 5 = true ∧ u.load 5 = activeAt { lamp with line := .b } 300 ∧
    u.firing = .reset false ∧ u.monitor = .reset ∧ u.commit = ⟨.idle, [], 5⟩ ∧
    u.attention.line.a = ⟨true, false, false⟩ ∧ u.attention.commit = some ⟨5, false⟩ := by decide +kernel

/-! ### Levels (Table 3-2, 3.8 to 3.10) -/

theorem test_fade_conversion :
    [stepCount 1 11500, stepCount 1 8333, stepCount 50 10000, stepCount 50 10002, stepCount 50 8333,
      stepCount 100 10000, stepCount 6000 11500, stepCount 6000 7000] =
    [1, 2, 50, 50, 61, 100, 5218, 8572] := by decide +kernel

theorem test_fade_overtaken :
    let r := (activeAt lamp 440).claim 300 9 10000 .command
    ((List.range 10).map fun k => (Record.rampStep^[k] r).currentLevel) =
      [440, 425, 410, 395, 380, 364, 348, 332, 316, 300] ∧ (Record.rampStep^[9] r).ramp = none := by
  decide +kernel

theorem test_hold_claims :
    let claim := fun (level : Nat) => ((activeAt lamp level).claimHold .raise 4 2).ramp.map (·.remaining)
    claim 300 = some 150 ∧ claim 301 = some 150 ∧ claim 900 = none ∧
    ((activeAt lamp 300).claimHold .lower 4 2).ramp = some ⟨38, .hold 2⟩ ∧
    (activeAt lamp 0).claimHold .lower 4 2 = activeAt lamp 0 := by decide +kernel

/-! ### Firing (4.10, 4.11) -/

def wide : LoadConfig := ⟨.a, .phaseLead, 50, 1000, 1000, 1, false, 4, 0#8⟩
def narrow : LoadConfig := ⟨.a, .phaseLead, 50, 1000, 200, 2, false, 4, 0#8⟩

/-- Loads 0 to 7 of 4.10, at the boundary of line A at 10000. -/
def crowd : State :=
  run (.zeroCrossEdge 10000 .a true) (withLoads dark fun n =>
    if n.val < 7 then activeAt wide 100 else if n = 7 then activeAt narrow 100 else .vacant)

theorem test_contention_list :
    (crowd.firing.lists.a.map fun e => (e.load.val, e.time)) =
      [(0, 17770), (1, 17770), (2, 17770), (3, 17770), (4, 17770), (5, 17770), (6, 17770), (7, 18130)] := by
  decide +kernel

def crowd1 : State := run (.pulseDue 18130) (run (.pulseDue 17770) crowd)

theorem test_pulse_due :
    (crowd1.firing.slots.map fun x => (x.load.val, x.stop)) =
      [(0, 18770), (1, 18770), (2, 18770), (3, 18770), (4, 18770), (5, 18770)] ∧
    (crowd1.firing.waiting.map fun e => (e.load.val, e.due, e.latestStart)) =
      [(6, 17770, 18600), (7, 18130, 19400)] := by decide +kernel

theorem test_latest_start_and_grant :
    let u := run (.latestStartPassed 18601 6) crowd1
    let v := run (.pulseEnd 18770 0) u
    (u.load 6).skipCount = 1 ∧ hasLoad u.attention.skip 6 = true ∧
    v.gate 0 = false ∧ v.gate 7 = true ∧ v.firing.waiting = [] ∧
    (run (.pulseEnd 18770 0) crowd1).gate 7 = true ∧
    ((run (.pulseEnd 18770 0) crowd1).firing.waiting.map (·.load)) = [6] ∧
    (run (.pulseEnd 18970 7) v).firing.lists.a =
      [.pulse ⟨7, .a, 19170, 2, 200, 2, 19400⟩] := by decide +kernel

theorem test_burst_decisions :
    let r := activeAt { lamp with mode := .burst } 300
    ((List.range 11).map fun k =>
      ((Record.decideBurst^[k] r).burstAccumulator, (Record.decideBurst^[k] r).burstCycleOn)) =
      [(0, false), (300, false), (600, false), (900, false), (200, true), (500, false), (800, false),
       (100, true), (400, false), (700, false), (0, true)] := by decide +kernel

theorem test_held_drive :
    let c := { lamp with mode := .phaseTrail }
    let u := run (.zeroCrossEdge 10000 .a true) (with5 (activeAt c 250))
    let v := run (.heldDriveStart 10300 5) u
    u.firing.lists.a = [.held ⟨5, 10300, 12625⟩] ∧ v.gate 5 = true ∧
    (run (.heldDriveEnd 12625 5 false) v).gate 5 = false ∧
    ((run (.heldDriveEnd 12625 5 false) v).load 5).missCount = 1 := by decide +kernel

/-! ### ALLOFF and resets -/

theorem test_alloff :
    let u := run (.alloffAssertion 18500) crowd1
    u.firing = .reset true ∧ (u.load 6).skipCount = 0 ∧ (u.load 0).state = .defined ∧
    (run (.alloffRelease 18600) u).firing.inhibit = false ∧
    response (run (.allOff 18500) (holding crowd1 0x70#8 [])) = some (.ok, []) ∧
    (run (.allOff 18500) (holding crowd1 0x70#8 [])).firing = .reset false := by decide +kernel

theorem test_resets :
    let u := run (.pinReset 20000) crowd1
    u.rstLow = true ∧ u.attn = false ∧ u.load 0 = .vacant ∧
    run (.alloffAssertion 20005) u = { u with now := 20005, allOff := true } ∧
    run (.zeroCrossEdge 20005 .b true) u = { u with now := 20005, zc := ⟨true, true, false⟩ } ∧
    (run (.pinResetEnd 20010) u).attention.safety.restarted = true ∧
    (run .powerOnReset crowd1).now = 0 ∧
    (run (.restart 1) (holding { crowd1 with scenes := { crowd1.scenes with free := 9 } } 0x7F#8 [])).scenes.free =
      9 := by decide +kernel

/-! ### Conduction (5.6, 5.7) -/

theorem test_post_firing_check :
    let s := { with5 { activeAt { lamp with missLimit := 3 } 500 with missCount := 2 } with
      monitor := { Monitor.reset with checks := [⟨5, 55150⟩] } }
    ((run (.postFiringCheck 55150 5 false) s).load 5).faultCause = some .noConduction ∧
    ((run (.postFiringCheck 55150 5 true) s).load 5).missCount = 0 := by decide +kernel

theorem test_quiet_sample :
    let s := { with5 { definedWith { lamp with missLimit := 2 } with stuckCount := 1 } with
      monitor := ⟨[], ⟨some ⟨150, 0x20#24⟩, none, none⟩⟩ }
    ((run (.quietSample 150 .a 0x20#24) s).load 5).state = .faulted ∧
    hasLoad (run (.quietSample 150 .a 0x20#24) s).attention.fault 5 = true ∧
    ((run (.quietSample 150 .a 0#24) s).load 5).stuckCount = 0 := by decide +kernel

/-- R99, R103: a load released and defined again, or faulted and cleared, before an untaken sample is not
in it. -/
theorem test_quiet_sample_left :
    let s := { with5 (definedWith lamp) with monitor := ⟨[], ⟨some ⟨150, 0x24#24⟩, none, none⟩⟩ }
    let r := run (.defineLoad 2) (holding (run (.releaseLoad 1) (holding s 0x23#8 [5#8])) 0x20#8 (set5 lamp 0))
    let f := { with5 { activeAt lamp 9 with missCount := 3 } with
      monitor := ⟨[⟨5, 1⟩], ⟨some ⟨150, 0x24#24⟩, none, none⟩⟩ }
    let c := run (.clearFault 2) (holding (run (.postFiringCheck 1 5 false) f) 0x26#8 [5#8])
    r.load 5 = definedWith lamp ∧ r.monitor.quiet.a = some ⟨150, 0x04#24⟩ ∧
    (run (.quietSample 150 .a 0x20#24) r).load 5 = definedWith lamp ∧
    c.load 5 = definedWith lamp ∧ c.monitor.quiet.a = some ⟨150, 0x04#24⟩ := by decide +kernel

/-! ### Staging and commit (6.10) -/

theorem test_stage_and_discard :
    (run (.stageLoad 1) (holding (with5 (activeAt lamp 9)) 0x30#8 (set5 lamp 7))).load 5 =
      { activeAt lamp 9 with staged := some { lamp with missLimit := 7 } } ∧
    (run (.discardStaged 1) (holding (with5 { activeAt lamp 9 with staged := some lamp }) 0x31#8 [5#8])).load
      5 = activeAt lamp 9 := by decide +kernel

theorem test_commit :
    let s := { withLoads dark (fun n =>
        if n = 2 then { activeAt lamp 9 with staged := some { lamp with line := .b } }
        else if n = 12 then { definedWith lamp with staged := some { lamp with minLevel := 200 } }
        else .vacant) with
      commit := ⟨.idle, [], 4⟩ }
    let u := run (.commit 1000) (holding s 0x32#8 [])
    let v := run (.zeroCrossEdge 10000 .a true) u
    response u = some (.ok, [5#8, 1#8]) ∧ u.load 12 = definedWith { lamp with minLevel := 200 } ∧
    answer (.readCommit 1001) 0x33#8 [] u = some (.ok, [1#8, 5#8, 1#8, 2#8, 0#8]) ∧
    v.load 2 = activeAt { lamp with line := .b } 9 ∧ v.commit = ⟨.idle, [], 5⟩ ∧
    v.attention.commit = some ⟨5, false⟩ ∧ v.firing.lists.a = [] := by decide +kernel

/-! ### Scenes (7.9, 7.10) -/

def twoEntries : List Byte := [7#8, 0#8, 30#8, 2#8, 5#8, 2#8, 0xBC#8, 0#8, 1#8, 0xF4#8]

def scene7 : Scene := ⟨30, [⟨0, 500⟩, ⟨5, 700⟩]⟩

def staged7 : State := { with5 (activeAt lamp 100) with
  scenes := ⟨dark.scenes.scenes.set 7 (some scene7), 190⟩ }

theorem test_write_scene :
    (run (.writeScene 1) (holding dark 0x40#8 twoEntries)).scenes =
      ⟨dark.scenes.scenes.set 7 (some scene7), 190⟩ ∧
    answer (.writeScene 1) 0x40#8 twoEntries { dark with scenes := { dark.scenes with free := 1 } } =
      some (.noSpace, []) ∧
    answer (.readScene 1) 0x42#8 [7#8] staged7 =
      some (.ok, [1#8, 0#8, 30#8, 2#8, 0#8, 1#8, 0xF4#8, 5#8, 2#8, 0xBC#8]) := by decide +kernel

theorem test_delete_scene :
    (run (.deleteScene 1) (holding staged7 0x41#8 [7#8])).scenes = .reset ∧
    answer (.deleteScene 1) 0x41#8 [7#8] dark = some (.state, []) := by decide +kernel

theorem test_recall_scene :
    let u := run (.recallScene 1) (holding staged7 0x43#8 [7#8, 0#8, 0#8, 0#8])
    response u = some (.ok, [1#8, 1#8]) ∧
    u.load 5 = { activeAt lamp 100 with targetLevel := 700, ramp := some ⟨30, .scene 7⟩ } := by
  decide +kernel

/-! ### Station Link (Table 8-5, 8.12) -/

def slotOf (x : SlotState) (address : Nat) (zones : ZoneSet) : StationSlot :=
  { StationSlot.vacated with state := x, station := some ⟨address, zones⟩ }

/-- The table of Table 8-5. -/
def rotating : StationLink := { StationLink.reset with
  enable := true
  slots := .ofFn fun i =>
    if i = 1 ∨ i = 4 then slotOf .online (i.val + 1) 0xFF#8
    else if i = 2 ∨ i = 6 then slotOf .offline (i.val + 1) 0xFF#8 else .vacated }

def pollOrder : Nat → StationLink → List Nat
  | 0, _ => []
  | n + 1, k =>
    match k.chooseNext.chosen with
    | none => []
    | some c => c.slot.val :: pollOrder n (k.chooseNext.polled c)

theorem test_poll_order : pollOrder 9 rotating = [1, 4, 2, 1, 4, 6, 1, 4, 2] := by decide +kernel

/-- Slot 3 of 8.12 with its poll's window open, and load 5 ACTIVE in zones 0 and 2, load 6 in zone 1. -/
def listened : State :=
  { withLoads dark (fun n =>
      if n = 5 then activeAt lamp 300
      else if n = 6 then activeAt { lamp with zones := 0x02#8 } 300 else .vacant) with
    now := 2000
    link := { StationLink.reset with
      enable := true
      slots := (Table.fill 8 .vacated).set 3 { slotOf .online 12 0x12#8 with lastSeq := some true }
      poll := some ⟨3, 12, 0, 1040, 5040, none, false⟩
      roundPosition := some 3 } }

/-- `listened` with slot 3 as `f` makes it. -/
def listened' (f : StationSlot → StationSlot) : State := listened.modifySlot 3 f

theorem test_raise_start :
    let u := run (.raiseStart 2340 replyRaise) listened
    u.slot 3 = { slotOf .online 12 0x12#8 with
      lastSeq := some false, lastResult := .accepted, hold := some ⟨1, .raise, 1002340⟩ } ∧
    u.load 6 = { activeAt { lamp with zones := 0x02#8 } 300 with
      targetLevel := 900, ramp := some ⟨150, .hold 3⟩ } ∧ u.load 5 = activeAt lamp 300 ∧
    u.link.poll = none ∧ u.link.nextPollAt = 2540 := by decide +kernel

theorem test_lower_and_stop :
    let u := run (.lowerStart 2340 replyLower) listened
    (u.load 6).ramp = some ⟨38, .hold 3⟩ ∧
    (let v := run (.holdExpiry 1002340 3) u
     (v.load 6).ramp = none ∧ (v.slot 3).hold = none ∧ (v.attention.station.get 3).holdExpired = true) ∧
    ((run (.holdStop 2340 replyStop) (listened' fun x => { x with hold := some ⟨1, .raise, 9000⟩ })).slot
      3).hold = none := by decide +kernel

theorem test_refused_and_duplicate :
    let u := run (.off 2340 replyOff) listened
    (u.slot 3).lastResult = .refused .notAllowed ∧ (u.attention.station.get 3).refused = true ∧
    ((run (.recall 2340 replyRecall) listened).slot 3).lastResult = .nothing ∧
    ((run (.recall 2340 replyRecall) (listened' fun x => { x with lastSeq := none })).slot 3).lastResult =
      .refused .noScene := by decide +kernel

theorem test_station_off :
    let s := listened' fun x => { x with station := some ⟨12, 0xFF#8⟩ }
    (run (.off 2340 replyOff) s).load 5 =
      { activeAt lamp 300 with targetLevel := 0, ramp := some ⟨100, .station 3⟩ } := by decide +kernel

theorem test_idle_and_silence :
    ((run (.idle 2340 replyIdle) (listened' fun x => { x with lastResult := .accepted })).slot 3).lastResult =
      .nothing ∧
    (run (.replyNotValid 2340 [0x69#8, 12#8, 0#8, 0#8]) listened).listening = none ∧
    ((run (.replyWindowClose 5040) listened).slot 3).failCount = 1 ∧
    ((run (.replyWindowClose 5040) (listened' fun x => { x with failCount := 4 })).slot 3).state =
      .offline := by decide +kernel

theorem test_poll :
    let u := run (.poll 6000) (run (.replyWindowClose 5040) listened)
    (run (.replyWindowClose 5040) listened).link.chosen = some (.online 3) ∧
    u.link.poll = some ⟨3, 12, 6000, 7040, 11040, none, false⟩ ∧ u.lde = true ∧ u.link.chosen = none ∧
    u.link.ltx.take 3 = [0x96#8, 12#8, 0x30#8] := by decide +kernel

/-- R146: a slot enrolled within the turnaround does not change the choice made at the end of the poll; the
slot chosen, removed within it, is chosen anew (log 14). -/
theorem test_choice_stands :
    let k : StationLink := { rotating with
      slots := rotating.slots.set 4 .vacated
      roundPosition := some 1
      poll := some ⟨1, 2, 0, 1040, 5040, none, false⟩ }
    let s := run (.replyWindowClose 5040) { dark with link := k }
    let u := run (.enrollStation 5041) (holding s 0x51#8 [20#8, 0xFF#8])
    let v := run (.removeStation 5041) (holding s 0x52#8 [2#8])
    s.link.chosen = some (.rediscovery 2) ∧ (u.slot 0).state = .offline ∧
    u.link.chosen = some (.rediscovery 2) ∧ v.link.chosen = some (.rediscovery 6) := by decide +kernel

theorem test_station_commands :
    answer (.enrollStation 1) 0x51#8 [12#8, 1#8] listened = some (.state, []) ∧
    answer (.enrollStation 1) 0x51#8 [13#8, 1#8] listened = some (.ok, [0#8]) ∧
    (run (.removeStation 1) (holding listened 0x52#8 [3#8])).link.poll =
      some ⟨3, 12, 0, 1040, 5040, some .removed, false⟩ ∧
    answer (.readStation 2000) 0x53#8 [3#8] (listened' fun x => { x with hold := some ⟨1, .raise, 9500⟩ }) =
      some (.ok, [1#8, 12#8, 0x12#8, 1#8, 0#8, 0#8, 0#8, 1#8, 1#8, 0#8, 0#8, 7#8]) := by decide +kernel

theorem test_configure_link :
    let u := run (.configureLink 1) (holding listened 0x50#8 [0#8, 5#8, 1#8, 0#8, 0#8, 9#8])
    u.link.enable = false ∧ u.link.holdStep = 5 ∧ u.link.holdExpiry = 256 ∧ u.link.offFade = 9 ∧
    u.link.nextPollAt = 5040 ∧
    answer (.configureLink 1) 0x50#8 [1#8, 0#8, 4#8, 0#8, 0#8, 9#8] listened = some (.badArgument, []) := by
  decide +kernel

/-! ### Command Unit and attention (9.10, 10.8) -/

theorem test_marks :
    let s := run (.commandWrite 2 1 (commandFrame 0x7E#8 [])) dark
    let u := run (.identify 3) (run (.commandWrite 3 2 [0#8]) s)
    let v := run (.identify 5) (run (.commandWrite 4 3 (commandFrame 0x7E#8 [])) u)
    (run (.commandWrite 3 2 [0#8]) s).port.overrun = true ∧
    u.port.unit = .responseReady ⟨.ok, true, false, true, [1#8, 0x44#8, 1#8]⟩ ∧
    v.port.unit = .responseReady ⟨.ok, false, true, true, [1#8, 0x44#8, 1#8]⟩ ∧
    (run (.responseRead 4 3 1) s).port.sdo = [0x08#8] ∧
    (run (.transactionIgnored 4 3 [0xA3#8, 1#8]) s).port.sdo = [0xFF#8] := by decide +kernel

theorem test_bad_frames :
    let bad : CommandUnit := { dark.port with unit := .executing [0x3C#8, 0x44#8, 0#8, 0x15#8] }
    response (run (.frameNotIntact 2) { dark with port := bad }) = some (.badFrame, []) ∧
    answer (.unknownCommand 2) 0x77#8 [] dark = some (.unknownCommand, []) ∧
    answer (.readPool 2) 0x44#8 [0#8] dark = some (.badFrame, []) := by decide +kernel

theorem test_attention :
    let s := { dark with attention := { Attention.cleared 0x20#6 with
      skip := 0x40#24, commit := some ⟨6, true⟩
      station := (Table.fill 8 .empty).set 3 ⟨false, false, true, false⟩ } }
    let u := run (.readEvents 1) (holding s 0x61#8 [4#8])
    let v := run (.readEvents 2) (holding u 0x61#8 [5#8])
    answer (.readSummary 1) 0x60#8 [] s = some (.ok, [0x38#8, 4#8, 0x20#8]) ∧ s.attn = true ∧
    response u = some (.ok, [4#8, 0x40#8, 0#8, 0#8]) ∧ u.attn = true ∧
    response v = some (.ok, [5#8, 1#8, 6#8, 1#8]) ∧ v.attn = false ∧
    (run (.setEventMask 3) (holding v 0x62#8 [0#8])).attn = true := by decide +kernel

/-! ### A state with something everywhere, and its invariants

Load 0 ramps with a hold of slot 3, holds a slot and waits for a commit on line A; load 1 has a held drive
under way; load 2 is DEFINED and sensed; load 3 is FAULTED; load 4 waits for a slot. -/

def trailing : LoadConfig := { lamp with mode := .phaseTrail }

def lit : State :=
  { withLoads dark (fun n =>
      if n = 0 then { activeAt lamp 300 with
        targetLevel := 900, ramp := some ⟨150, .hold 3⟩, staged := some narrow }
      else if n = 1 then activeAt trailing 250
      else if n = 2 then definedWith lamp
      else if n = 3 then { definedWith lamp with state := .faulted, faultCause := some .stuckOn }
      else if n = 4 then activeAt lamp 1000
      else .vacant) with
    now := 2000
    firing :=
      { lists := ⟨[.pulse ⟨4, .a, 3000, 2, 100, 2, 9500⟩], [], []⟩
        slots := [⟨0, .a, 1, 100, 2, 2050, 9500⟩]
        waiting := [⟨4, .a, 1900, 1, 100, 2, 9500⟩]
        held := [⟨1, 2625⟩]
        inhibit := false }
    monitor := ⟨[⟨1, 2100⟩], ⟨some ⟨150, 0x17#24⟩, none, none⟩⟩
    commit := ⟨.pending, [⟨0, .a⟩], 5⟩
    scenes := ⟨(Table.fill 32 none).set 7 (some scene7), 190⟩
    link := { listened.link with
      slots := listened.link.slots.set 3 { slotOf .online 12 0x12#8 with hold := some ⟨1, .raise, 9000⟩ } } }

theorem lit_loads (n : LoadIx) : lit.load n =
    if n = 0 then { activeAt lamp 300 with
      targetLevel := 900, ramp := some ⟨150, .hold 3⟩, staged := some narrow }
    else if n = 1 then activeAt trailing 250
    else if n = 2 then definedWith lamp
    else if n = 3 then { definedWith lamp with state := .faulted, faultCause := some .stuckOn }
    else if n = 4 then activeAt lamp 1000
    else .vacant := Table.get_ofFn _ n

theorem test_witness_records : lit.RecordsOk := by
  intro n
  rw [lit_loads]
  (repeat' split) <;>
    simp [Record.Ok, Record.configOk, Record.stagedOk, Record.rampOk, LoadConfig.bounds, Record.vacant,
      activeAt, definedWith, lamp, trailing, narrow, LoadConfig.valid, LoadConfig.trainDuration] <;> decide

theorem test_witness_scenes : lit.PoolOk ∧ lit.ScenesOk := by
  refine ⟨show _ = _ by decide +kernel, fun n c hc => ?_⟩
  have h : lit.scenes.scenes.get n = if n = 7 then some scene7 else none := by
    simp [lit, Table.set, Table.get_modify]
  rw [h] at hc
  split at hc
  · obtain rfl : scene7 = c := by simpa using hc
    simp [Scene.Ok, scene7]; decide
  · simp at hc

theorem test_witness_trackers : lit.TrackersOk := by
  refine ⟨by simp only [LineConfig.Ok]; decide +kernel, ?_⟩
  intro l
  cases l <;>
    simp [lit, dark, withLoads, withLock, State.reset, LineConfig.default, PerLine.fill, PerLine.get,
      PerLine.set, Tracker.reset, Lock.Ok, Track.Ok, trackAt]
  decide

theorem test_witness_slots : lit.SlotsOk ∧ lit.WaitingOk :=
  ⟨show _ ≤ _ by decide +kernel, by simp [State.WaitingOk, lit]⟩

/-- Loads 0, 1, 2 and 4 wait for the quiet sample of line A. -/
theorem test_witness_samples : lit.SamplesOk := by
  intro l q hq n hn
  cases l
  · obtain rfl : (⟨150, 0x17#24⟩ : QuietSample) = q := by simpa [lit, PerLine.get] using hq
    revert n
    decide +kernel
  · simp [lit, PerLine.get] at hq
  · simp [lit, PerLine.get] at hq

theorem lit_drives {n : LoadIx} (h : (lit.load n).isActive = true) (hl : (lit.load n).onLine .a = true) :
    lit.Drives n .a := ⟨h, hl, by decide +kernel⟩

theorem test_witness_firing : lit.FiringOk := by
  have h0 : lit.Drives 0 .a := lit_drives (by decide +kernel) (by decide +kernel)
  have h1 : lit.Drives 1 .a := lit_drives (by decide +kernel) (by decide +kernel)
  have h4 : lit.Drives 4 .a := lit_drives (by decide +kernel) (by decide +kernel)
  refine ⟨?_, ?_, ?_, ?_, ?_, ?_, ?_⟩
  · intro x hx
    obtain rfl : x = ⟨0, .a, 1, 100, 2, 2050, 9500⟩ := by simpa [lit] using hx
    exact h0
  · intro x hx
    obtain rfl : x = ⟨4, .a, 1900, 1, 100, 2, 9500⟩ := by simpa [lit] using hx
    exact h4
  · intro l e he
    cases l
    · obtain rfl : e = .pulse ⟨4, .a, 3000, 2, 100, 2, 9500⟩ := by simpa [lit, PerLine.get] using he
      exact ⟨h4, rfl⟩
    · simp [lit, PerLine.get] at he
    · simp [lit, PerLine.get] at he
  · intro x hx
    obtain rfl : x = ⟨1, 2625⟩ := by simpa [lit] using hx
    exact ⟨.a, h1⟩
  · intro h
    simp [lit] at h
  · intro h
    simp [lit, withLoads, dark, withLock, State.reset] at h
  · intro _
    rfl

theorem test_witness_commit : lit.CommitOk := by
  refine ⟨by simp [lit], by simp [lit], fun m hm => ?_⟩
  obtain rfl : m = ⟨0, .a⟩ := by simpa [lit] using hm
  exact ⟨by decide +kernel, by decide +kernel, by decide +kernel, by decide +kernel⟩

theorem lit_slots (i : SlotIx) : lit.slot i =
    if i = 3 then { slotOf .online 12 0x12#8 with hold := some ⟨1, .raise, 9000⟩ } else .vacated := by
  simp [State.slot, lit, listened, Table.set, Table.get_modify]
  split <;> rfl

theorem test_witness_link : lit.LinkOk ∧ lit.HoldsOk := by
  refine ⟨⟨?_, ?_, ?_, ?_, ?_⟩, ?_⟩
  · simp [StationLink.SettingsOk, lit, listened, StationLink.reset]
  · intro i
    rw [lit_slots]
    split <;> simp [StationSlot.Ok, slotOf, StationSlot.vacated]
  · intro i j hij e he f hf
    have hi := lit_slots i
    have hj := lit_slots j
    simp only [State.slot] at hi hj
    rw [hi] at he
    rw [hj] at hf
    split at he <;> split at hf <;> simp_all [slotOf, StationSlot.vacated]
  · intro q hq
    obtain rfl : q = ⟨3, 12, 0, 1040, 5040, none, false⟩ := by
      simpa [lit, listened, eq_comm] using hq
    intro _
    decide +kernel
  · exact ⟨by simp [lit, listened, StationLink.reset], by simp [lit, listened]⟩
  · intro n x hx i hi
    rw [lit_loads] at hx
    rw [lit_slots]
    (repeat' split at hx) <;> simp [activeAt, definedWith, Record.vacant] at hx
    subst hx
    obtain rfl : 3 = i := by simpa using hi
    rfl

/-- The invariants, and a step from them that answers a next state. -/
theorem test_witness_invariants : lit.Inv ∧ ∃ u, step { lit with pending := [.pulseDue 3000] } = .next u :=
  ⟨⟨test_witness_records, test_witness_scenes.1, test_witness_scenes.2, test_witness_trackers,
    test_witness_slots.1, test_witness_slots.2, test_witness_firing, test_witness_samples,
    test_witness_commit, test_witness_link.1, test_witness_link.2⟩, _, rfl⟩

theorem test_witness_high_gate : lit.gate 0 = true ∧ lit.gate 1 = true := by decide +kernel

/-! ### Witnesses of the other hypotheses, claim by claim -/

/-- PinResetHoldsThenEnds, AlloffAssertion…, AlloffRelease…: the pin levels. -/
theorem test_witness_pins : lit.rstLow = false ∧ lit.allOff = false ∧
    (run (.pinReset 1) lit).rstLow = true ∧ (run (.alloffAssertion 1) lit).allOff = true ∧
    (run (.alloffAssertion 1) lit).rstLow = false := by decide +kernel

/-- ValidReplyIsReplyImage: valid replies at the ends of the address range. -/
theorem test_witness_replies :
    parseReply 1 (replyFrame 1 true (.recall 31 true)) = some (.recall 31 true) ∧
    parseReply 31 (replyFrame 31 false (.off 7 false)) = some (.off 7 false) ∧
    parseReply 31 (replyFrame 31 true .idle ++ [1#8]) = some .idle := by decide +kernel

/-- AcquisitionJudgesEachSpacing, ThirdGoodSpacingLocks: spacings at the bounds of R33. -/
theorem test_witness_spacings : GoodSpacing [] 7000 ∧ GoodSpacing [] 11500 ∧
    GoodSpacing [10010, 9980] 10180 ∧ GoodSpacing [10010, 9980] 9780 ∧ ¬ GoodSpacing [] 6999 ∧
    ¬ GoodSpacing [] 11501 ∧ ¬ GoodSpacing [9980] 10181 := by simp [GoodSpacing]

/-- TrackedEdgeIsNoiseOrBoundary, EmptyWindowGivesSyntheticBoundary, FourthEmptyWindowLosesLine: the two
states of a tracked line, and the instants at the ends of the window of `trackAt 0`. -/
theorem test_witness_windows : dark.trackers.a.lock = .locked (trackAt 0) ∧
    ((10000 : Nat) : Int) = max 7000 (min 11500 (((trackAt 0).p : Int) + ((9999 - 0 : Int) - 10000).tdiv 8)) ∧
    9749 + 250 < (trackAt 0).lastBoundary + (trackAt 0).p ∧
    (trackAt 0).lastBoundary + (trackAt 0).p ≤ 9750 + 250 ∧
    10250 ≤ (trackAt 0).lastBoundary + (trackAt 0).p + 250 ∧
    (withLock dark .a (.holdover (trackAt 0) 3)).trackers.a.lock = .holdover (trackAt 0) 3 := by
  decide +kernel

/-- BoundaryStepsLevelsAndBursts, BoundaryDropsOldListAndSamples: at a POS boundary of line A load 0 is
applied and steps, and load 4 is dropped with a skip. -/
theorem test_witness_boundary :
    let u := lit.announce ⟨.a, 10000, .pos, true, 10000, 300, 400, 1⟩
    lit.waitsOn .a 0 = true ∧ (u.load 0).config = some narrow ∧ (u.load 0).currentLevel = 304 ∧
    (u.load 4).skipCount = 1 ∧ (u.load 0).skipCount = 0 ∧ u.commit.state = .idle := by decide +kernel

/-- ApplyPutsCopyInForce: a member whose copy changes line or mode, and one that waits on. -/
theorem test_witness_apply : lit.commit.state = .pending ∧
    (lit.load 0).config = some lamp ∧ (lit.load 0).staged = some narrow ∧ lamp.mode = narrow.mode ∧
    (lit.applyMembers fun n => n == 1).commit.members = [⟨0, .a⟩] ∧ narrow.senseEnable = false ∧
    (lit.applyMembers fun n => n == 0).monitor.quiet.a = some ⟨150, 0x16#24⟩ := by decide +kernel

/-- PulseEndFreesSlotAndContinues: a pulse that continues its train, one whose next pulse is too late, the
last one of a sensed load; a slot granted to the head of the waiting list. -/
theorem test_witness_pulse_end :
    let x : SlotPulse := ⟨0, .a, 1, 100, 2, 2050, 9500⟩
    x ∈ lit.firing.slots ∧ (∀ y ∈ lit.firing.slots, y.load = x.load → y = x) ∧ x.stop ≤ 2050 ∧
    x ∉ lit.firing.slots.erase x ∧ (∀ e ∈ lit.firing.waiting, e.load ≠ x.load) ∧
    (∀ h ∈ lit.firing.held, h.load ≠ x.load) ∧
    x.number < x.count ∧ 2050 + 200 ≤ x.latestStart ∧ x.latestStart < 9400 + 200 ∧
    (lit.load 0).sensed = true ∧
    (crowd1.firing.slots.length = 6 ∧ (crowd1.firing.waiting.head?).map (·.latestStart) = some 18600) := by
  decide +kernel

/-- LatestStartAbandonsTrain. -/
theorem test_witness_latest_start :
    let e : PulseEntry := ⟨4, .a, 1900, 1, 100, 2, 9500⟩
    e ∈ lit.firing.waiting ∧ (∀ y ∈ lit.firing.waiting, y.load = e.load → y = e) ∧ e.latestStart < 9501 := by
  decide +kernel

/-- HeldDriveStartsAndIsJudgedAtEnd: a listed drive, and the end of one of an ACTIVE, sensed load below and
at its miss_limit. -/
theorem test_witness_held :
    let h : HeldDrive := ⟨1, 2625⟩
    let s := { lit with firing := { lit.firing with lists := ⟨[.held ⟨1, 300, 2625⟩], [], []⟩ } }
    FiringEntry.held ⟨1, 300, 2625⟩ ∈ s.firing.lists.get .a ∧ h ∈ lit.firing.held ∧ lit.firing.held.Nodup ∧
    (∀ y ∈ lit.firing.held, y.load = h.load → y = h) ∧ (∀ x ∈ lit.firing.slots, x.load ≠ h.load) ∧
    (lit.load 1).state = .active ∧ (lit.load 1).sensed = true ∧
    (lit.load 1).missCount + 1 < (lit.load 1).missLimit ∧
    (∀ r ∈ [{ lit.load 1 with missCount := 3 }], r.missLimit ≤ r.missCount + 1) := by decide +kernel

/-- DueCheckClearsRaisesOrFaults: a check of an ACTIVE, sensed load. -/
theorem test_witness_check :
    let c : PendingCheck := ⟨1, 2100⟩
    c ∈ lit.monitor.checks ∧ (∀ y ∈ lit.monitor.checks, y.load = c.load → y = c) ∧
    lit.monitor.checks.Nodup ∧ c.due ≤ 2100 := by decide +kernel

/-- QuietSampleJudgesEachLoad: the set holds loads that are judged and one that is not. -/
theorem test_witness_quiet : lit.monitor.quiet.get .a = some ⟨150, 0x17#24⟩ ∧
    (lit.load 0).samples .a = true ∧ (lit.load 2).samples .a = true ∧ (lit.load 3).samples .a = false ∧
    (∀ r ∈ [{ lit.load 2 with stuckCount := 3 }], r.missLimit ≤ r.stuckCount + 1) := by decide +kernel

/-- The Station Link claims: a reply window that awaits a Reply. -/
theorem test_witness_awaits : lit.Awaits 2340 ⟨3, 12, 0, 1040, 5040, none, false⟩ ∧
    listened.Awaits 5040 ⟨3, 12, 0, 1040, 5040, none, false⟩ := by
  simp only [State.Awaits]; decide +kernel

/-- ExpiryAndHoldStopStopHold, AcceptedRecallAndOffClaimLevels, AcceptedHoldStartsClaimOrKeepAlive,
DuplicatesAndRefusalsTouchNoLoad: requests that are new, duplicate, refused and accepted at slot 3. -/
theorem test_witness_requests :
    (lit.slot 3).hold = some ⟨1, .raise, 9000⟩ ∧ (lit.slot 3).lastSeq = none ∧ lit.firing.inhibit = false ∧
    hasZone (lit.slot 3).allowed 1 = true ∧ hasZone (lit.slot 3).allowed 2 = false ∧
    parseReply 12 replyStop = some (.holdStop 1 false) ∧
    parseReply 12 replyRaise = some (.raiseStart 1 false) ∧
    parseReply 12 replyLower = some (.lowerStart 1 false) ∧
    parseReply 12 replyRecall = some (.recall 7 true) ∧ parseReply 12 replyOff = some (.off 2 false) ∧
    parseReply 12 replyIdle = some .idle ∧ lit.scenes.scenes.get 7 = some scene7 ∧
    (scene7.entries.map (·.load)).Nodup ∧ listened.scenes.scenes.get 7 = none ∧
    (listened.slot 3).lastSeq = some true ∧ (run (.alloffAssertion 1) lit).firing.inhibit = true ∧
    (listened.load 5).config = some lamp ∧ (listened.load 5).state = .active ∧
    lamp.zones.getLsbD 2 = true ∧ (listened.load 5).stationLock = false := by
  decide +kernel

/-- IdleAndInvalidReplies: a complete Reply that is not valid. -/
theorem test_witness_invalid_reply : replyComplete [0x69#8, 12#8, 0#8, 0#8] = true ∧
    parseReply 12 [0x69#8, 12#8, 0#8, 0#8] = none := by decide +kernel

/-- PollPicksNextSlotOfRound: an ONLINE pick, a rediscovery pick, a round that is over; and a poll of the
slot chosen. -/
theorem test_witness_picks :
    rotating.Picks (.online 1) ∧ { rotating with roundPosition := some 4 }.Picks (.rediscovery 2) ∧
    (∀ c, ¬ { rotating with rediscovered := true }.Picks c) ∧
    (let s := run (.replyWindowClose 5040) listened
     s.rstLow = false ∧ s.link.enable = true ∧ s.link.poll = none ∧ s.link.nextPollAt ≤ max s.now 5240 ∧
      s.link.chosen = some (.online 3) ∧ (s.slot 3).station = some ⟨12, 0x12#8⟩) := by
  refine ⟨?_, ?_, fun c h => ?_, by decide +kernel⟩
  · simp only [StationLink.Picks, StationLink.Ahead]; decide +kernel
  · simp only [StationLink.Picks, StationLink.Ahead]; decide +kernel
  · cases c <;> simp [StationLink.Picks] at h

/-- WindowCloseFailsPoll: an ONLINE slot below and at the fifth failure, and a poll marked for discard. -/
theorem test_witness_window_close : lit.link.poll = some ⟨3, 12, 0, 1040, 5040, none, false⟩ ∧
    (lit.slot 3).state = .online ∧ (lit.slot 3).failCount < 4 ∧
    ((listened' fun x => { x with failCount := 4 }).slot 3).failCount = 4 ∧
    ((run (.removeStation 1) (holding lit 0x52#8 [3#8])).link.poll.map (·.discard)) =
      some (some .removed) := by decide +kernel

/-- TransactionsActByUnitState: the three unit states, with CS falling as the port opens. -/
theorem test_witness_units : lit.port.openSince ≤ 0 ∧ lit.port.unit = .idle ∧
    (∃ g, (holding lit 0x7E#8 []).port.unit = .executing g) ∧
    (run (.identify 1) (holding lit 0x7E#8 [])).port.unit =
      .responseReady ⟨.ok, false, false, true, [1#8, 0x44#8, 1#8]⟩ :=
  ⟨by decide +kernel, by decide +kernel, ⟨_, rfl⟩, by decide +kernel⟩

/-- The execution claims: frames of every length the claims use are intact. -/
theorem test_witness_executing :
    (holding lit 0x7E#8 []).Executing 0x7E#8 [] ∧
    (holding lit 0x21#8 [24#8]).Executing 0x21#8 [24#8] ∧
    (holding lit 0x25#8 [2#8, flagByte true]).Executing 0x25#8 [2#8, flagByte true] ∧
    (holding lit 0x24#8 (4#8 :: (word 1000 ++ word 6000))).Executing 0x24#8 (4#8 :: (word 1000 ++ word 6000)) ∧
    (holding lit 0x20#8 (set5 lamp 0)).Executing 0x20#8 (set5 lamp 0) ∧
    (holding lit 0x20#8 (set5 lamp 15)).Executing 0x20#8 (set5 lamp 15) ∧
    (holding lit 0x40#8 twoEntries).Executing 0x40#8 twoEntries :=
  ⟨holding_executes rfl (by decide +kernel), holding_executes rfl (by decide +kernel),
    holding_executes rfl (by decide +kernel), holding_executes rfl (by decide +kernel),
    holding_executes rfl (by decide +kernel), holding_executes rfl (by decide +kernel),
    holding_executes rfl (by decide +kernel)⟩

/-- BadFramesAndCodesAreRefused: a code that names no command, a frame of a wrong length. -/
theorem test_witness_bad_frames :
    (∀ c, ((0x77#8 : Byte), c) ∉ executions 1) ∧ lengthRule 0x44#8 = some (.exactly 0) ∧
    (holding lit 0x77#8 []).Executing 0x77#8 [] ∧ (holding lit 0x44#8 [0#8]).Executing 0x44#8 [0#8] ∧
    (holding lit 0x40#8 [7#8, 0#8, 0#8]).Executing 0x40#8 [7#8, 0#8, 0#8] ∧
    parseFrame [0x3C#8, 0x44#8] = none :=
  ⟨by simp [executions], by decide +kernel, holding_executes rfl (by decide +kernel),
    holding_executes rfl (by decide +kernel), holding_executes rfl (by decide +kernel), by decide +kernel⟩

/-- RefusedCommandChangesNothing: a command that is refused. -/
theorem test_witness_refused :
    ((0x21#8 : Byte), Instr.enableLoad 1) ∈ executions 1 ∧
    answer (.enableLoad 1) 0x21#8 [0#8] lit = some (.state, []) := ⟨by simp [executions], by decide +kernel⟩

/-- The load and staging claims: records in each state, members and others, and valid configurations. -/
theorem test_witness_load_states : (lit.load 0).state = .active ∧ lit.isMember 0 = true ∧
    (lit.load 4).state = .active ∧ lit.isMember 4 = false ∧ (lit.load 2).state = .defined ∧
    lit.isMember 2 = false ∧ (lit.load 3).state = .faulted ∧ lit.isMember 3 = false ∧
    (lit.load 5).state = .vacant ∧ lamp.valid = true ∧
    lamp.missLimit = (if 0 = 0 then 4 else 0) ∧ { lamp with missLimit := 15 }.valid = true ∧
    (let s := run (.disableLoad 1) (holding { lit with commit := ⟨.pending, [⟨2, .a⟩], 5⟩ } 0x22#8 [4#8])
     (s.load 2).state = .defined ∧ s.isMember 2 = true) := by decide +kernel

/-- CommitAppliesOrWaits: both commit states under the record invariant. -/
theorem test_witness_commit_states : lit.commit.state = .pending ∧
    { lit with commit := .reset }.commit.state = .idle ∧ { lit with commit := .reset }.RecordsOk :=
  ⟨rfl, rfl, test_witness_records⟩

/-- SceneWriteAndDeleteKeepPool, RecallSceneClaimsActiveLoads: room for the entries, no room, and a defined
scene recalled with the largest override and with none. -/
theorem test_witness_scene_writes :
    lit.scenes.free + heldEntries (lit.scenes.scenes.get 7) = 192 ∧
    ({ lit with scenes := { lit.scenes with free := 0 } }).scenes.free +
      heldEntries (lit.scenes.scenes.get 8) < 2 ∧
    (let es : List SceneEntry := [⟨5, 700⟩, ⟨0, 500⟩]
     (es.map (·.load)).Nodup ∧ twoEntries = byte 7 :: (word 30 ++ byte es.length ::
       es.flatMap fun e => byte e.load.val :: word e.level)) ∧
    parseFrame (commandFrame 0x43#8 (7#8 :: flagByte true :: word 6000)) =
      some ⟨0x43#8, 7#8 :: flagByte true :: word 6000⟩ ∧
    parseFrame (commandFrame 0x43#8 (7#8 :: flagByte false :: word 65535)) =
      some ⟨0x43#8, 7#8 :: flagByte false :: word 65535⟩ := by decide +kernel

/-- ConfigureLinkStoresAndSwitches, EnrollAndRemoveStation: settings and addresses at the ends of their
ranges, an address that is taken, slots in use and EMPTY, and a table without an EMPTY slot. -/
theorem test_witness_station_commands :
    (let p := flagByte false :: byte 50 :: (word 5000 ++ word 6000)
     parseFrame (commandFrame 0x50#8 p) = some ⟨0x50#8, p⟩ ∧ lit.link.enable = true) ∧
    (let p := flagByte true :: byte 1 :: (word 200 ++ word 0)
     parseFrame (commandFrame 0x50#8 p) = some ⟨0x50#8, p⟩ ∧ dark.link.enable = false) ∧
    parseFrame (commandFrame 0x51#8 [31#8, 0xFF#8]) = some ⟨0x51#8, [31#8, 0xFF#8]⟩ ∧
    (lit.slot 3).station = some ⟨12, 0x12#8⟩ ∧ (lit.slot 0).state = .empty ∧
    (let full : Table 8 StationSlot := .ofFn fun i => slotOf .offline (i.val + 1) 0#8
     ∀ i, (full.get i).state ≠ .empty) := by decide +kernel

/-- SetEventMaskReplacesMask, ConfigureLinesMovesTrackers: a mask, a value past the six classes, and guards
at the ends of their ranges. -/
theorem test_witness_masks_and_lines :
    parseFrame (commandFrame 0x62#8 [(0x3F#6).setWidth 8]) = some ⟨0x62#8, [(0x3F#6).setWidth 8]⟩ ∧
    answer (.setEventMask 1) 0x62#8 [0x40#8] lit = some (.badArgument, []) ∧
    (let p := byte (false.toNat + 2 * true.toNat + 4 * true.toNat) :: (word 2000 ++ word 2000 ++ word 7000)
     parseFrame (commandFrame 0x10#8 p) = some ⟨0x10#8, p⟩) ∧
    (let p := byte 7 :: (word 300 ++ word 200 ++ word 11500)
     parseFrame (commandFrame 0x10#8 p) = some ⟨0x10#8, p⟩) := by decide +kernel

end Sys2Proof.Tests
end

section
/-!
SUPPORT. What each operation keeps of the rules about one load record (`Record.Ok`) and of the quiet
samples (`State.SamplesOk`), and from it what a step keeps of them.
-/

namespace Sys2Proof.Machine

/-! ## Bounds -/

theorem LoadConfig.limit_bounds {c : LoadConfig} (hv : c.valid = true) (d : Direction) :
    1 ≤ c.limit d ∧ c.limit d ≤ 1000 := by
  simp only [LoadConfig.valid, Bool.and_eq_true, decide_eq_true_eq] at hv
  cases d <;> simp only [LoadConfig.limit] <;> omega

theorem LoadConfig.missLimit_pos {c : LoadConfig} (hv : c.valid = true) : 0 < c.missLimit := by
  simp only [LoadConfig.valid, Bool.and_eq_true, decide_eq_true_eq] at hv
  omega

theorem ceilDiv_bounds {a b : Nat} (ha : 1 ≤ a) (hb : 1 ≤ b) : 1 ≤ ceilDiv a b ∧ ceilDiv a b ≤ a := by
  unfold ceilDiv
  have hab : a ≤ b * a := Nat.le_mul_of_pos_left a hb
  constructor
  · rw [Nat.le_div_iff_mul_le hb]
    omega
  · rw [Nat.div_le_iff_le_mul_add_pred hb]
    omega

/-- A quotient rounded toward 0 lies between 0 and the dividend, and short of it for divisors above 1. -/
theorem tdiv_between (a : Int) (n : Nat) :
    (0 ≤ a → 0 ≤ a.tdiv n ∧ a.tdiv n ≤ a) ∧ (a ≤ 0 → a ≤ a.tdiv n ∧ a.tdiv n ≤ 0) ∧
    (a ≠ 0 → 2 ≤ n → a.tdiv n ≠ a) := by
  obtain ⟨m, hm⟩ := a.eq_nat_or_neg
  have hle : m / n ≤ m := Nat.div_le_self m n
  have hlt : m ≠ 0 → 2 ≤ n → m / n < m := fun h0 h2 => Nat.div_lt_self (by omega) h2
  rcases hm with rfl | rfl
  · rw [← Int.ofNat_tdiv]
    generalize m / n = d at *
    omega
  · rw [Int.neg_tdiv, ← Int.ofNat_tdiv]
    generalize m / n = d at *
    omega

/-! ## The rules about one record -/

namespace Record

variable {r : Record}

/-! The rules of a sound record by name. -/

theorem Ok.configOk (h : r.Ok) : r.configOk := h.1

theorem Ok.rampOk (h : r.Ok) : r.rampOk := h.2.2.1

theorem Ok.currentLevel_le (h : r.Ok) : r.currentLevel ≤ 1000 := h.2.2.2.1

theorem Ok.targetLevel_le (h : r.Ok) : r.targetLevel ≤ 1000 := h.2.2.2.2.1

theorem Ok.levels_eq_zero (h : r.Ok) (hs : r.state ≠ .active) : r.currentLevel = 0 ∧ r.targetLevel = 0 :=
  h.2.2.2.2.2.1 hs

theorem Ok.faultCause_iff (h : r.Ok) : r.faultCause.isSome = true ↔ r.state = .faulted :=
  h.2.2.2.2.2.2.1

theorem Ok.counts_eq_zero (h : r.Ok) (hs : r.state = .faulted) : r.missCount = 0 ∧ r.stuckCount = 0 :=
  h.2.2.2.2.2.2.2.1 hs

theorem Ok.burstAccumulator_le (h : r.Ok) : r.burstAccumulator ≤ 999 := h.2.2.2.2.2.2.2.2.1

/-- A record in a state other than VACANT holds a configuration, within its bounds (R1). -/
theorem Ok.exists_config (h : r.Ok) (hs : r.state ≠ .vacant) :
    ∃ c, r.config = some c ∧ c.bounds r := by
  have hc := h.configOk
  unfold Record.configOk at hc
  cases hr : r.config with
  | none =>
    rw [hr] at hc
    exact absurd (congrArg Record.state hc) hs
  | some c =>
    rw [hr] at hc
    exact ⟨c, rfl, hc.2⟩

theorem ok_vacant : Record.vacant.Ok := by
  simp [Record.Ok, Record.configOk, Record.stagedOk, Record.rampOk, Record.vacant]

/-- The effective level of a record is at most 1000 (R3, R9). -/
theorem effective_le {c : LoadConfig} (hc : r.config = some c) (hv : c.valid = true)
    (hl : r.currentLevel ≤ 1000) : r.effective ≤ 1000 := by
  simp only [LoadConfig.valid, Bool.and_eq_true, decide_eq_true_eq] at hv
  unfold Record.effective
  simp only [hc]
  grind

/-- Levels and ramp may change together, within their ranges (R5, R47). -/
theorem Ok.setLevels (h : r.Ok) {cur tar : Nat} {x : Option Ramp} (hcur : cur ≤ 1000)
    (htar : tar ≤ 1000) (hact : r.state ≠ .active → cur = 0 ∧ tar = 0)
    (hnone : x = none → cur = tar)
    (hsome : ∀ k, x = some k → cur ≠ tar ∧ 1 ≤ k.remaining ∧ k.remaining ≤ 65535) :
    { r with currentLevel := cur, targetLevel := tar, ramp := x }.Ok := by
  obtain ⟨hconfig, hstaged, -, -, -, -, hrest⟩ := h
  refine ⟨?_, hstaged, ?_, hcur, htar, hact, hrest⟩
  · unfold Record.configOk at hconfig ⊢
    cases hc : r.config with
    | some c =>
      rw [hc] at hconfig
      exact hconfig
    | none =>
      rw [hc] at hconfig
      subst hconfig
      obtain ⟨rfl, rfl⟩ := hact (by simp [Record.vacant])
      cases x with
      | none => rfl
      | some x => exact absurd rfl (hsome x rfl).1
  · cases x with
    | none => exact hnone rfl
    | some x => exact hsome x rfl

/-- A level claim of at most 1000 on an ACTIVE record (R49). -/
theorem Ok.claim (h : r.Ok) (ha : r.state = .active) {target : Nat} (ht : target ≤ 1000)
    (fade p : Nat) (origin : Origin) : (r.claim target fade p origin).Ok := by
  have hcur := h.currentLevel_le
  rw [claim_eq_claimed]
  exact h.setLevels (by grind) ht (fun hna => absurd ha hna) (by grind) (by grind)

/-- A hold claim on an ACTIVE record, with a step of at least 1 (R62). -/
theorem Ok.claimHold (h : r.Ok) (ha : r.state = .active) (d : Direction) {step : Nat}
    (hstep : 1 ≤ step) (slot : SlotIx) : (r.claimHold d step slot).Ok := by
  obtain ⟨c, hc, hb⟩ := h.exists_config (by simp [ha])
  have hcur := h.currentLevel_le
  have hlim := LoadConfig.limit_bounds hb.1 d
  rw [claimHold_eq r hc]
  split
  · exact h
  · refine h.setLevels hcur hlim.2 (fun hna => absurd ha hna) (fun hx => ?_) fun k hk => ?_
    · have : ((c.limit d : Int) - r.currentLevel).natAbs = 0 := by grind
      omega
    · have hd : 1 ≤ ((c.limit d : Int) - r.currentLevel).natAbs := by grind
      have hceil := ceilDiv_bounds hd hstep
      obtain rfl : _ = k := by simpa [Nat.ne_of_gt hd] using hk
      dsimp only
      omega

/-- The stop of a hold (R64). -/
theorem Ok.settle (h : r.Ok) : r.settle.Ok := by
  have hcur := h.currentLevel_le
  have hzero (hna : r.state ≠ .active) := (h.levels_eq_zero hna).1
  exact h.setLevels hcur hcur (fun hna => ⟨hzero hna, hzero hna⟩) (fun _ => rfl) (by simp)

/-- A ramp step of an ACTIVE record: the last one reaches the target, an earlier one stops short of it
(R55). -/
theorem Ok.rampStep (h : r.Ok) (ha : r.state = .active) : r.rampStep.Ok := by
  have hcur := h.currentLevel_le
  have htar := h.targetLevel_le
  unfold Record.rampStep
  cases hx : r.ramp with
  | none => exact h
  | some x =>
    obtain ⟨hne, h1, hmax⟩ : r.currentLevel ≠ r.targetLevel ∧ 1 ≤ x.remaining ∧ x.remaining ≤ 65535 := by
      simpa [Record.rampOk, hx] using h.rampOk
    obtain ⟨hup, hdown, hshort⟩ := tdiv_between ((r.targetLevel : Int) - r.currentLevel) x.remaining
    dsimp only
    refine h.setLevels (by omega) htar (fun hna => absurd ha hna) (fun hn => ?_) fun k hk => ?_
    · have hlast : x.remaining = 1 := by grind
      rw [hlast, Nat.cast_one, Int.tdiv_one]
      omega
    · obtain ⟨hmore, rfl⟩ : x.remaining - 1 ≠ 0 ∧ _ = k := by simpa using hk
      have := hshort (by omega) (by omega)
      dsimp only
      omega

theorem configOk_iff {c : LoadConfig} (hc : r.config = some c) :
    r.configOk ↔ r.state ≠ .vacant ∧ c.bounds r := by
  simp [configOk, hc]

theorem Ok.setBurst (h : r.Ok) (hs : r.state ≠ .vacant) {sum : Nat} (hsum : sum ≤ 999) (on : Bool) :
    { r with burstAccumulator := sum, burstCycleOn := on }.Ok := by
  obtain ⟨c, hc, -⟩ := h.exists_config hs
  obtain ⟨hconfig, hstaged, hramp, hcur, htar, hact, hcause, hcounts, -, hskip⟩ := h
  rw [configOk_iff hc] at hconfig
  exact ⟨(configOk_iff (r := { r with burstAccumulator := sum, burstCycleOn := on }) hc).2 hconfig,
    hstaged, hramp, hcur, htar, hact, hcause, hcounts, hsum, hskip⟩

/-- A BURST decision of an ACTIVE record (R73). -/
theorem Ok.decideBurst (h : r.Ok) (ha : r.state = .active) : r.decideBurst.Ok := by
  have hs : r.state ≠ .vacant := by simp [ha]
  obtain ⟨c, hc, hb⟩ := h.exists_config hs
  have heff := effective_le hc hb.1 h.currentLevel_le
  have hacc := h.burstAccumulator_le
  unfold Record.decideBurst
  dsimp only
  split
  · exact h.setBurst hs (by omega) true
  · exact h.setBurst hs (by omega) false

/-- The counts of a record in use may change below miss_limit, at 0 with sensing off and in FAULTED (R2,
R7, R92). -/
theorem Ok.setCounts (h : r.Ok) (hs : r.state ≠ .vacant) {miss stuck : Nat}
    (hcounts : ∀ c, r.config = some c → miss < c.missLimit ∧ stuck < c.missLimit ∧
      (c.senseEnable = false → miss = 0 ∧ stuck = 0))
    (hfault : r.state = .faulted → miss = 0 ∧ stuck = 0) :
    { r with missCount := miss, stuckCount := stuck }.Ok := by
  obtain ⟨c, hc, hb⟩ := h.exists_config hs
  obtain ⟨-, hstaged, hramp, hcur, htar, hact, hcause, -, hacc, hskip⟩ := h
  exact ⟨(configOk_iff (r := { r with missCount := miss, stuckCount := stuck }) hc).2
    ⟨hs, hb.1, hcounts c hc⟩, hstaged, hramp, hcur, htar, hact, hcause, hfault, hacc, hskip⟩

/-- A post-firing check that finds conduction, and an enable, clear miss_count. -/
theorem Ok.clearMiss (h : r.Ok) (hs : r.state ≠ .vacant) : { r with missCount := 0 }.Ok := by
  obtain ⟨c, hc, hv, -, hstuck, hoff⟩ := h.exists_config hs
  refine h.setCounts hs (fun d hd => ?_) fun hf => ⟨rfl, (h.counts_eq_zero hf).2⟩
  obtain rfl : c = d := by simpa [hc] using hd
  exact ⟨LoadConfig.missLimit_pos hv, hstuck, fun hn => ⟨rfl, (hoff hn).2⟩⟩

/-- Both counts cleared. -/
theorem Ok.clearCounts (h : r.Ok) (hs : r.state ≠ .vacant) :
    { r with missCount := 0, stuckCount := 0 }.Ok := by
  obtain ⟨c, hc, hv, -⟩ := h.exists_config hs
  refine h.setCounts hs (fun d hd => ?_) fun _ => ⟨rfl, rfl⟩
  obtain rfl : c = d := by simpa [hc] using hd
  exact ⟨LoadConfig.missLimit_pos hv, LoadConfig.missLimit_pos hv, fun _ => ⟨rfl, rfl⟩⟩

theorem missLimit_eq {c : LoadConfig} (hc : r.config = some c) : r.missLimit = c.missLimit := by
  simp [Record.missLimit, hc]

theorem sensed_eq {c : LoadConfig} (hc : r.config = some c) : r.sensed = c.senseEnable := by
  simp [Record.sensed, hc]

theorem isActive_iff : r.isActive = true ↔ r.state = .active := by simp [Record.isActive]

/-- A miss short of the limit (R95). -/
theorem Ok.countMiss (h : r.Ok) (ha : r.state = .active) (hsense : r.sensed = true)
    (hlim : r.missCount + 1 < r.missLimit) : { r with missCount := r.missCount + 1 }.Ok := by
  have hs : r.state ≠ .vacant := by simp [ha]
  obtain ⟨c, hc, hv, -, hstuck, -⟩ := h.exists_config hs
  rw [missLimit_eq hc] at hlim
  rw [sensed_eq hc] at hsense
  refine h.setCounts hs (fun d hd => ?_) fun hf => absurd (ha.symm.trans hf) (by decide)
  obtain rfl : c = d := by simpa [hc] using hd
  exact ⟨hlim, hstuck, fun hn => absurd (hsense.symm.trans hn) (by decide)⟩

/-- A quiet reading of a load that is sampled (R99). -/
theorem Ok.judgeQuiet (h : r.Ok) {l : Line} (hsample : r.samples l = true) (conducting : Bool) :
    (r.judgeQuiet conducting).Ok := by
  simp only [Record.samples, Bool.and_eq_true, Bool.or_eq_true, isActive_iff,
    decide_eq_true_eq] at hsample
  obtain ⟨⟨hstate, -⟩, hsense⟩ := hsample
  have hs : r.state ≠ .vacant := by rcases hstate with h | h <;> simp [h]
  have hf : r.state ≠ .faulted := by rcases hstate with h | h <;> simp [h]
  obtain ⟨c, hc, hv, hmiss, hstuck, hoff⟩ := h.exists_config hs
  rw [sensed_eq hc] at hsense
  unfold Record.judgeQuiet
  rw [missLimit_eq hc]
  split
  · split
    · rename_i hlim
      refine h.setCounts hs (fun d hd => ?_) fun hn => absurd hn hf
      obtain rfl : c = d := by simpa [hc] using hd
      exact ⟨hmiss, hlim, fun hn => absurd (hsense.symm.trans hn) (by decide)⟩
    · exact h
  · refine h.setCounts hs (fun d hd => ?_) fun hn => absurd hn hf
    obtain rfl : c = d := by simpa [hc] using hd
    exact ⟨hmiss, LoadConfig.missLimit_pos hv, fun hn => ⟨(hoff hn).1, rfl⟩⟩

/-- A record in use that goes to another state at level 0, with the fault cause that goes with it (R8,
R14, R19, R101). -/
theorem Ok.moveTo (h : r.Ok) (hs : r.state ≠ .vacant) {next : RecordState} (hn : next ≠ .vacant)
    {cause : Option FaultCause} (hcause : cause.isSome = true ↔ next = .faulted)
    (hcounts : next = .faulted → r.missCount = 0 ∧ r.stuckCount = 0) :
    { r with
      state := next, currentLevel := 0, targetLevel := 0, ramp := none, faultCause := cause }.Ok := by
  obtain ⟨c, hc, hb⟩ := h.exists_config hs
  obtain ⟨-, hstaged, -, -, -, -, -, -, hacc, hskip⟩ := h
  refine ⟨?_, ?_, rfl, Nat.zero_le _, Nat.zero_le _, fun _ => ⟨rfl, rfl⟩, hcause, hcounts, hacc, hskip⟩
  · simp only [Record.configOk, hc]
    exact ⟨hn, hb⟩
  · unfold Record.stagedOk at hstaged ⊢
    cases hd : r.staged with
    | none => trivial
    | some d =>
      simp only [hd] at hstaged
      exact ⟨hstaged.1, hn⟩

/-- Only a FAULTED record holds a fault cause (R8). -/
theorem Ok.faultCause_eq_none (h : r.Ok) (hs : r.state ≠ .faulted) : r.faultCause = none := by
  cases hf : r.faultCause with
  | none => rfl
  | some x => exact absurd (h.faultCause_iff.1 (by simp [hf])) hs

/-- An ACTIVE load taken off (R14, R85). -/
theorem Ok.leaveActive (h : r.Ok) (ha : r.state = .active) : (r.leaveActive .defined).Ok := by
  have hnone := h.faultCause_eq_none (by simp [ha])
  have := h.moveTo (by simp [ha]) (next := .defined) (cause := r.faultCause) (by simp) (by simp [hnone])
    (by simp)
  exact this

/-- A load retired by a fault (R101). -/
theorem Ok.fault (h : r.Ok) (hs : r.state ≠ .vacant) (cause : FaultCause) : (r.fault cause).Ok :=
  (h.clearCounts hs).moveTo hs (next := .faulted) (by simp) (by simp) fun _ => ⟨rfl, rfl⟩

/-- CLEAR_FAULT on a record in use (R19). -/
theorem Ok.clearFault (h : r.Ok) (hs : r.state ≠ .vacant) :
    { r.leaveActive .defined with faultCause := none, missCount := 0, stuckCount := 0 }.Ok :=
  (h.clearCounts hs).moveTo hs (next := .defined) (by simp) (by simp) (by simp)

/-- ENABLE_LOAD on a DEFINED record (R12). -/
theorem Ok.enable (h : r.Ok) (hd : r.state = .defined) :
    { r with
      state := .active, currentLevel := 0, targetLevel := 0, ramp := none
      burstAccumulator := 0, burstCycleOn := false, missCount := 0 }.Ok := by
  have hs : r.state ≠ .vacant := by simp [hd]
  have hnone := h.faultCause_eq_none (by simp [hd])
  have hmoved := (h.clearMiss hs).moveTo hs (next := .active) (cause := r.faultCause) (by simp)
    (by simp [hnone]) (by simp)
  exact hmoved.setBurst (by simp) (Nat.zero_le _) false

/-- One skip more, holding at 255 (R7), or skip_count cleared (R22). -/
theorem Ok.setSkip (h : r.Ok) (hs : r.state ≠ .vacant) {skip : Nat} (hskip : skip ≤ 255) :
    { r with skipCount := skip }.Ok := by
  obtain ⟨c, hc, hb⟩ := h.exists_config hs
  obtain ⟨-, hstaged, hramp, hcur, htar, hact, hcause, hcounts, hacc, -⟩ := h
  exact ⟨(configOk_iff (r := { r with skipCount := skip }) hc).2 ⟨hs, hb⟩, hstaged, hramp, hcur, htar,
    hact, hcause, hcounts, hacc, hskip⟩

/-- A record that is VACANT is the VACANT record (R5). -/
theorem Ok.eq_vacant (h : r.Ok) (hs : r.state = .vacant) : r = .vacant := by
  have hconfig := h.configOk
  unfold Record.configOk at hconfig
  cases hc : r.config with
  | none => simpa [hc] using hconfig
  | some c =>
    rw [hc] at hconfig
    exact absurd hs hconfig.1

theorem Ok.clearSkip (h : r.Ok) : { r with skipCount := 0 }.Ok := by
  by_cases hs : r.state = .vacant
  · obtain rfl := h.eq_vacant hs
    exact ok_vacant
  · exact h.setSkip hs (Nat.zero_le _)

theorem Ok.setLock (h : r.Ok) (hs : r.state ≠ .vacant) (on : Bool) :
    { r with stationLock := on }.Ok := by
  obtain ⟨c, hc, hb⟩ := h.exists_config hs
  obtain ⟨-, hrest⟩ := h
  exact ⟨(configOk_iff (r := { r with stationLock := on }) hc).2 ⟨hs, hb⟩, hrest⟩

/-- A copy that has passed R3, or none, may be staged for a record in use (R106). -/
theorem Ok.stage (h : r.Ok) (hs : r.state ≠ .vacant) {d : Option LoadConfig}
    (hd : ∀ c, d = some c → c.valid = true) : { r with staged := d }.Ok := by
  obtain ⟨c, hc, hb⟩ := h.exists_config hs
  obtain ⟨-, -, hrest⟩ := h
  refine ⟨(configOk_iff (r := { r with staged := d }) hc).2 ⟨hs, hb⟩, ?_, hrest⟩
  cases d with
  | none => trivial
  | some e => exact ⟨hd e rfl, hs⟩

/-- DEFINE_LOAD with a valid configuration (R11). -/
theorem ok_defined {c : LoadConfig} (hc : c.valid = true) :
    { Record.vacant with state := .defined, config := some c }.Ok := by
  have hpos := LoadConfig.missLimit_pos hc
  exact ⟨⟨by simp, hc, hpos, hpos, fun _ => ⟨rfl, rfl⟩⟩, trivial, rfl, Nat.zero_le _, Nat.zero_le _,
    fun _ => ⟨rfl, rfl⟩, by simp [Record.vacant], fun _ => ⟨rfl, rfl⟩, Nat.zero_le _, Nat.zero_le _⟩

/-- The staged copy put in force (R113). -/
theorem Ok.applyStaged (h : r.Ok) : r.applyStaged.Ok := by
  cases hd : r.staged with
  | none => rwa [applyStaged_none r hd]
  | some d =>
    obtain ⟨-, hstaged, hramp, hcur, htar, hact, hcause, -, hacc, hskip⟩ := h
    obtain ⟨hv, hs⟩ : d.valid = true ∧ r.state ≠ .vacant := by simpa [Record.stagedOk, hd] using hstaged
    simp only [Record.applyStaged, hd]
    have hpos := LoadConfig.missLimit_pos hv
    refine ⟨⟨hs, hv, hpos, hpos, fun _ => ⟨rfl, rfl⟩⟩, trivial, hramp, hcur, htar, hact, hcause,
      fun _ => ⟨rfl, rfl⟩, ?_, hskip⟩
    dsimp only
    split
    · exact hacc
    · exact Nat.zero_le _

@[simp] theorem judgeQuiet_state (conducting : Bool) : (r.judgeQuiet conducting).state = r.state := by
  unfold Record.judgeQuiet
  split
  · split <;> rfl
  · rfl

@[simp] theorem judgeQuiet_config (conducting : Bool) : (r.judgeQuiet conducting).config = r.config := by
  unfold Record.judgeQuiet
  split
  · split <;> rfl
  · rfl

/-! ### Loads that quiet samples may hold -/

theorem samples_iff {l : Line} : r.samples l = true ↔
    (r.state = .active ∨ r.state = .defined) ∧ r.onLine l = true ∧ r.sensed = true := by
  simp [Record.samples, Record.isActive, and_assoc]

/-- A record of the same configuration, ACTIVE or DEFINED like the first, is sampled like it. -/
theorem samples_congr {v : Record} (hc : v.config = r.config)
    (hs : r.state = .active ∨ r.state = .defined → v.state = .active ∨ v.state = .defined) {l : Line}
    (h : r.samples l = true) : v.samples l = true := by
  rw [samples_iff] at h ⊢
  simp only [Record.onLine, Record.sensed, hc] at h ⊢
  exact ⟨hs h.1, h.2⟩

theorem recallable_active {caller : Caller} (h : r.recallable caller = true) :
    r.state = .active := by
  unfold Record.recallable at h
  split at h
  · exact Record.isActive_iff.1 h
  · split at h
    · simp at h
    · simp only [Bool.and_eq_true] at h
      exact Record.isActive_iff.1 h.1.1

theorem eligible_active {z : Zone} (h : r.eligible z = true) : r.state = .active := by
  unfold Record.eligible at h
  split at h
  · simp at h
  · simp only [Bool.and_eq_true] at h
    exact Record.isActive_iff.1 h.1.1

/-- From `r` to `v` a record keeps its rules, where `sound` holds, and its place in quiet samples. -/
def Keeps (sound : Prop) (r v : Record) : Prop :=
  (sound → r.Ok → v.Ok) ∧ ∀ l, r.samples l = true → v.samples l = true

variable {sound : Prop}

theorem Keeps.refl (r : Record) : Keeps sound r r := ⟨fun _ h => h, fun _ h => h⟩

/-- A change within one configuration that leaves ACTIVE and DEFINED loads in these states. -/
theorem keeps_of_live {v : Record} (hc : v.config = r.config)
    (hs : r.state = .active ∨ r.state = .defined → v.state = .active ∨ v.state = .defined)
    (hok : sound → r.Ok → v.Ok) : Keeps sound r v :=
  ⟨hok, fun _ => samples_congr hc hs⟩

/-- A change of a load that no quiet sample holds. -/
theorem keeps_of_not_live {v : Record} (hs : ¬ (r.state = .active ∨ r.state = .defined))
    (hok : sound → r.Ok → v.Ok) : Keeps sound r v :=
  ⟨hok, fun _ h => absurd (samples_iff.1 h).1 hs⟩

/-- A change within one state and configuration. -/
theorem keeps_of_ok {v : Record} (hs : v.state = r.state) (hc : v.config = r.config)
    (hok : sound → r.Ok → v.Ok) : Keeps sound r v :=
  keeps_of_live hc (by simp [hs]) hok

end Record

theorem Scene.Ok.level_le {c : Scene} (h : c.Ok) : ∀ e ∈ c.entries, e.level ≤ 1000 := h.2.2.2.2

@[simp] theorem StationLink.endPoll_holdStep (k : StationLink) (now : Nat) :
    (k.endPoll now).holdStep = k.holdStep := by
  unfold StationLink.endPoll
  split
  · rfl
  · split <;> rfl

/-! ## What a step keeps of the records and of the quiet samples -/

namespace State

variable {s u v : State} {sound : Prop}

/-- From `s` to `u` the load records keep their rules, where `sound` holds, and the quiet samples theirs.
Without `sound` it is a claim about samples alone, which needs none of the other invariants. -/
def Keeps (sound : Prop) (s u : State) : Prop :=
  (sound → s.RecordsOk → u.RecordsOk) ∧ (s.SamplesOk → u.SamplesOk)

theorem samplesOk_iff : s.SamplesOk ↔
    ∀ l, ∀ q ∈ s.monitor.quiet.get l, ∀ n, hasLoad q.loads n = true → (s.load n).samples l = true := by
  simp only [State.SamplesOk, Record.samples_iff]

theorem load_congr (hl : u.loads = s.loads) (n : LoadIx) : u.load n = s.load n := by
  simp only [State.load, hl]

theorem Keeps.refl (s : State) : Keeps sound s s := ⟨fun _ h => h, fun h => h⟩

theorem Keeps.trans (h : Keeps sound s u) (h' : Keeps sound u v) : Keeps sound s v :=
  ⟨fun hp hr => h'.1 hp (h.1 hp hr), fun hs => h'.2 (h.2 hs)⟩

/-- Records that each keep their rules and their place, with the samples as they are. -/
theorem Keeps.of_records (hq : u.monitor.quiet = s.monitor.quiet)
    (h : ∀ n, (s.load n).Keeps sound (u.load n)) : Keeps sound s u := by
  constructor
  · exact fun hp hr n => (h n).1 hp (hr n)
  · rw [samplesOk_iff, samplesOk_iff, hq]
    exact fun hs l q hm n hn => (h n).2 l (hs l q hm n hn)

/-- Whatever leaves the records and the quiet samples alone keeps both. -/
theorem Keeps.frame (hl : u.loads = s.loads) (hq : u.monitor.quiet = s.monitor.quiet) :
    Keeps sound s u :=
  .of_records hq fun n => (load_congr hl n).symm ▸ .refl _

/-- The loads of `p` leave the samples; those left in them keep their place. -/
theorem Keeps.of_leaveSamples (p : LoadIx → Bool)
    (hq : u.monitor.quiet = (s.monitor.leaveSamples p).quiet)
    (hok : sound → ∀ n, (s.load n).Ok → (u.load n).Ok)
    (hs : ∀ n, p n = false → ∀ l, (s.load n).samples l = true → (u.load n).samples l = true) :
    Keeps sound s u := by
  constructor
  · exact fun hp hr n => hok hp n (hr n)
  · rw [samplesOk_iff, samplesOk_iff, hq]
    intro h l q hm n hn
    rw [Monitor.leaveSamples_quiet] at hm
    obtain ⟨q', hq', rfl⟩ := Option.map_eq_some_iff.1 hm
    rw [hasLoad_sub, Bool.and_eq_true, Bool.not_eq_true'] at hn
    exact hs n hn.2 l (h l q' hq' n hn.1)

/-- One record changes. -/
theorem keeps_modifyLoad {n : LoadIx} {f : Record → Record} (h : (s.load n).Keeps sound (f (s.load n))) :
    Keeps sound s (s.modifyLoad n f) := by
  refine Keeps.of_records rfl fun m => ?_
  by_cases hm : m = n
  · subst hm
    rwa [load_modifyLoad_self]
  · rw [load_modifyLoad_ne s hm]
    exact .refl _

theorem keeps_mapLoads {f : LoadIx → Record → Record}
    (h : ∀ n, (s.load n).Keeps sound (f n (s.load n))) :
    Keeps sound s (s.mapLoads f) :=
  Keeps.of_records rfl fun n => by
    rw [load_mapLoads]
    exact h n

theorem keeps_cutLoads (p : LoadIx → Bool) : Keeps sound s (s.cutLoads p) := .frame rfl rfl

/-- A sample taken or dropped keeps the others. -/
theorem keeps_dropQuiet (l : Line) (hl : u.loads = s.loads)
    (hq : u.monitor.quiet = s.monitor.quiet.set l none) : Keeps sound s u := by
  constructor
  · intro _ h n
    rw [load_congr hl]
    exact h n
  · intro h m q hm n hn
    rw [hq] at hm
    rw [load_congr hl]
    by_cases hml : m = l
    · subst hml
      simp at hm
    · rw [PerLine.get_set_ne _ hml] at hm
      exact h m q hm n hn

/-- With every record VACANT and no sample untaken nothing is left to keep (R26, R105). -/
theorem keeps_reset (hl : u.loads = .fill 24 .vacant) (hq : u.monitor = .reset) : Keeps sound s u := by
  constructor
  · intro _ _ n
    simp only [State.load, hl, Table.get_fill]
    exact Record.ok_vacant
  · intro _ l q hm
    simp [hq, Monitor.reset] at hm

/-! ### Claims and holds -/

/-- The stop of holds settles records, each in its state (R64). -/
theorem keeps_stopHolds (p : SlotIx → Bool) : Keeps sound s (s.stopHolds p) := by
  refine Keeps.of_records rfl fun n => ?_
  rw [load_stopHolds]
  split
  · split
    · exact Record.keeps_of_ok rfl rfl fun _ h => h.settle
    · exact .refl _
  · exact .refl _

theorem keeps_stopHoldOf (i : SlotIx) : Keeps sound s (s.stopHoldOf i) := by
  unfold State.stopHoldOf
  split
  · exact keeps_stopHolds _
  · exact .refl s

/-- What claims rest on: scene levels are in range, and a hold has a step (R58, R122). -/
def ClaimsOk (s : State) : Prop := s.ScenesOk ∧ 1 ≤ s.link.holdStep

theorem keeps_recallScene (n : SceneIx) {es : List SceneEntry} (fade : Nat) (caller : Caller)
    (h : sound → ∀ e ∈ es, e.level ≤ 1000) : Keeps sound s (s.recallScene n es fade caller) := by
  refine keeps_mapLoads fun i => ?_
  split
  · exact .refl _
  · rename_i e he
    split
    · rename_i hr
      exact Record.keeps_of_ok (Record.claim_state ..) (Record.claim_config ..) fun hp hok =>
        hok.claim (Record.recallable_active hr) (h hp e (List.mem_of_find?_eq_some he)) ..
    · exact .refl _

theorem keeps_zoneOff (i : SlotIx) (z : Zone) : Keeps sound s (s.zoneOff i z) := by
  refine keeps_mapLoads fun n => ?_
  split
  · rename_i hr
    exact Record.keeps_of_ok (Record.claim_state ..) (Record.claim_config ..) fun _ hok =>
      hok.claim (Record.eligible_active hr) (Nat.zero_le _) ..
  · exact .refl _

/-- A keep-alive touches no record; a new hold claims the eligible loads (R153). -/
theorem keeps_startHold (i : SlotIx) (z : Zone) (d : Direction) (h : sound → 1 ≤ s.link.holdStep) :
    Keeps sound s (s.startHold i z d) := by
  unfold State.startHold
  dsimp only
  split
  · exact .frame rfl rfl
  · refine ((keeps_stopHoldOf i).trans (.frame rfl rfl)).trans (keeps_mapLoads fun n => ?_)
    split
    · rename_i hr
      exact Record.keeps_of_ok (Record.claimHold_state ..) (Record.claimHold_config ..) fun hp hok =>
        hok.claimHold (Record.eligible_active hr) d (h hp) i
    · exact .refl _

theorem keeps_endHold (i : SlotIx) (z : Zone) : Keeps sound s (s.endHold i z) := by
  unfold State.endHold
  split
  · exact keeps_stopHoldOf i
  · exact .refl s

theorem keeps_stationRecall (i : SlotIx) (n : SceneIx) (h : sound → s.ScenesOk) :
    Keeps sound s (s.stationRecall i n) := by
  unfold State.stationRecall
  split
  · exact .refl s
  · rename_i c hc
    exact keeps_recallScene n c.fade _ fun hp => (h hp n c hc).level_le

/-! ### Commit applies, skips and faults -/

/-- An apply puts valid copies in force, and takes out of the samples the loads it moves to another line
or leaves unsensed (R104, R113). -/
theorem keeps_applyMembers (p : LoadIx → Bool) : Keeps sound s (s.applyMembers p) := by
  refine Keeps.of_leaveSamples
    (fun n => (p n && (s.load n).changesLine) || p n && !(s.applyMembers p |>.load n).sensed) ?_ ?_ ?_
  · simp [State.applyMembers, Monitor.removeChecks, load_def]
  · intro _ n hok
    rw [load_applyMembers]
    split
    · exact hok.applyStaged
    · exact hok
  · intro n hn l hl
    rw [load_applyMembers] at hn ⊢
    split
    · rename_i hp
      simp only [hp, Bool.true_and, if_true, Bool.or_eq_false_iff, Bool.not_eq_false'] at hn
      rw [Record.samples_iff] at hl ⊢
      exact ⟨by simpa using hl.1, Record.onLine_applyStaged _ hl.2.1 hn.1, hn.2⟩
    · exact hl

theorem keeps_skipLoads {p : LoadIx → Bool} (h : sound → ∀ n, p n = true → (s.load n).state ≠ .vacant) :
    Keeps sound s (s.skipLoads p) := by
  refine Keeps.of_records rfl fun n => ?_
  rw [load_skipLoads]
  split
  · rename_i hp
    exact Record.keeps_of_ok rfl rfl fun hsound hok => hok.setSkip (h hsound n hp) (Nat.min_le_left _ _)
  · exact .refl _

theorem load_faultLoads (p : LoadIx → Bool) (cause : FaultCause) (n : LoadIx) :
    (s.faultLoads p cause).load n = if p n then (s.load n).fault cause else s.load n :=
  load_mapLoads s (fun n r => if p n then r.fault cause else r) n

theorem keeps_faultLoads {p : LoadIx → Bool} (cause : FaultCause)
    (h : ∀ n, p n = true → (s.load n).state ≠ .vacant) : Keeps sound s (s.faultLoads p cause) := by
  refine Keeps.of_leaveSamples p rfl ?_ ?_
  · intro _ n hok
    rw [load_faultLoads]
    split
    · rename_i hp
      exact hok.fault (h n hp) cause
    · exact hok
  · intro n hn l hl
    rwa [load_faultLoads, hn]

/-! ### Conduction -/

/-- A post-firing check clears or counts a miss, or faults the load (R95). -/
theorem keeps_judgeCheck (n : LoadIx) (conducting : Bool) :
    Keeps sound s (s.judgeCheck n conducting) := by
  unfold State.judgeCheck
  dsimp only
  split
  · rename_i hr
    rw [Bool.and_eq_true, Record.isActive_iff] at hr
    obtain ⟨ha, hsense⟩ := hr
    have hs : (s.load n).state ≠ .vacant := by simp [ha]
    split
    · exact keeps_modifyLoad (Record.keeps_of_ok rfl rfl fun _ hok => hok.clearMiss hs)
    · split
      · rename_i hlim
        exact keeps_modifyLoad (Record.keeps_of_ok rfl rfl fun _ hok => hok.countMiss ha hsense hlim)
      · refine keeps_faultLoads .noConduction fun m hm => ?_
        rwa [eq_of_beq hm]
  · exact .refl s

/-- A quiet sample counts on the loads it holds, and faults those that are stuck (R99). -/
theorem keeps_sampleQuiet (l : Line) (set : LoadSet) : Keeps sound s (s.sampleQuiet l set) := by
  unfold State.sampleQuiet
  dsimp only
  refine (keeps_mapLoads fun n => ?_).trans (keeps_faultLoads .stuckOn fun n hn => ?_)
  · split
    · rename_i hr
      rw [Bool.and_eq_true] at hr
      exact Record.keeps_of_ok (Record.judgeQuiet_state _) (Record.judgeQuiet_config _)
        fun _ hok => hok.judgeQuiet hr.2 _
    · exact .refl _
  · simp only [Bool.and_eq_true] at hn
    have hstate := (Record.samples_iff.1 hn.1.2).1
    rw [load_mapLoads]
    split <;> rcases hstate with h | h <;> simp [h]

/-- ACTIVE loads become DEFINED (R85). -/
theorem keeps_takeAllOff : Keeps sound s s.takeAllOff := by
  have hoff : Keeps sound s { s with
      loads := s.loads.mapIx fun _ r => if r.isActive then r.leaveActive .defined else r
      firing := .reset s.firing.inhibit
      monitor := { s.monitor with checks := [] } } := by
    refine (keeps_mapLoads (f := fun _ r => if r.isActive then r.leaveActive .defined else r)
      fun n => ?_).trans (.frame rfl rfl)
    split
    · rename_i ha
      rw [Record.isActive_iff] at ha
      exact Record.keeps_of_live rfl (fun _ => .inr rfl) fun _ hok => hok.leaveActive ha
    · exact .refl _
  exact hoff.trans (keeps_stopHolds _)

/-! ### The half-cycle boundary -/

/-- Every load of a firing list is ACTIVE. -/
def ListsActive (s : State) : Prop :=
  ∀ l, ∀ e ∈ s.firing.lists.get l, (s.load e.load).state = .active

theorem ListsActive.mono (h : s.ListsActive)
    (hl : ∀ l, ∀ e ∈ u.firing.lists.get l, e ∈ s.firing.lists.get l)
    (hs : ∀ n, (u.load n).state = (s.load n).state) : u.ListsActive :=
  fun l e he => (hs e.load).trans (h l e (hl l e he))

theorem ListsActive.applyMembers (h : s.ListsActive) (p : LoadIx → Bool) :
    (s.applyMembers p).ListsActive := by
  refine h.mono (fun l e he => ?_) fun n => ?_
  · rw [applyMembers_firing, Firing.grant_lists, Firing.mem_remove_lists] at he
    exact he.1
  · rw [load_applyMembers]
    split <;> simp

theorem keeps_stepRamps (l : Line) : Keeps sound s (s.stepRamps l) := by
  refine keeps_mapLoads fun n => ?_
  split
  · rename_i hr
    rw [Bool.and_eq_true, Record.isActive_iff] at hr
    exact Record.keeps_of_ok (Record.rampStep_state _) (Record.rampStep_config _) fun _ hok =>
      hok.rampStep hr.1
  · exact .refl _

theorem keeps_decideBursts (b : Boundary) : Keeps sound s (s.decideBursts b) := by
  refine keeps_mapLoads fun n => ?_
  split
  · rename_i hr
    have ha : (s.load n).state = .active := by
      simp only [Bool.and_eq_true, Record.isActive_iff] at hr
      exact hr.2.1.1
    exact Record.keeps_of_ok (Record.decideBurst_state _) (Record.decideBurst_config _) fun _ hok =>
      hok.decideBurst ha
  · exact .refl _

/-- The trains of a dropped list are of ACTIVE loads (R69). -/
theorem keeps_dropList (l : Line) (h : sound → s.ListsActive) : Keeps sound s (s.dropList l) := by
  unfold State.dropList
  dsimp only
  refine (keeps_skipLoads fun hp n hn => ?_).trans (.frame rfl rfl)
  obtain ⟨e, he, hen⟩ := List.any_eq_true.1 hn
  have ha := h hp l e he
  cases e with
  | held x => simp at hen
  | pulse x =>
    rw [← eq_of_beq hen]
    exact fun hv => by simp [FiringEntry.load, hv] at ha

/-- The sample a boundary forms holds the loads that are to be sampled (R98). -/
theorem keeps_formQuiet (b : Boundary) : Keeps sound s (s.formQuiet b) := by
  refine ⟨fun _ h => h, ?_⟩
  rw [samplesOk_iff, samplesOk_iff]
  intro h l q hm n hn
  by_cases hl : l = b.line
  · subst hl
    simp only [State.formQuiet, PerLine.get_set_self] at hm
    split at hm
    · obtain rfl := Option.some.inj hm
      simpa using hn
    · simp at hm
  · simp only [State.formQuiet, PerLine.get_set_ne _ hl] at hm
    exact h l q hm n hn

theorem keeps_announce (b : Boundary) (h : sound → s.ListsActive) : Keeps sound s (s.announce b) := by
  have hlists (hp : sound) : (((s.applyMembers (s.waitsOn b.line)).stepRamps b.line).decideBursts
      b).ListsActive := by
    refine ((h hp).applyMembers (s.waitsOn b.line)).mono (fun _ _ he => he) fun n => ?_
    rw [load_decideBursts, load_stepRamps]
    repeat' split
    all_goals simp
  exact ((((keeps_applyMembers _).trans (keeps_stepRamps _)).trans (keeps_decideBursts b)).trans
    (keeps_dropList b.line hlists)).trans ((Keeps.frame rfl rfl).trans (keeps_formQuiet b))

theorem keeps_loseLine (l : Line) : Keeps sound s (s.loseLine l) := by
  unfold State.loseLine
  dsimp only
  refine Keeps.trans (Keeps.trans ?_ (keeps_cutLoads _)) (keeps_applyMembers _)
  exact keeps_dropQuiet l rfl rfl

theorem ListsActive.loseLine (h : s.ListsActive) (l : Line) : (s.loseLine l).ListsActive := by
  unfold State.loseLine
  dsimp only
  refine ListsActive.applyMembers ?_ _
  refine h.mono (fun m e he => ?_) fun n => rfl
  rw [cutLoads_firing, Firing.grant_lists, Firing.mem_remove_lists] at he
  by_cases hm : m = l
  · subst hm
    simp at he
  · simpa [hm] using he.1

theorem keeps_lineEvent (l : Line) (e : Option LineEvent) : Keeps sound s (s.lineEvent l e) := by
  cases e with
  | none => exact .refl s
  | some e =>
    cases e with
    | locked => exact .frame rfl rfl
    | holdoverEntered => exact .frame rfl rfl
    | lost => exact keeps_loseLine l

theorem ListsActive.lineEvent (h : s.ListsActive) (l : Line) (e : Option LineEvent) :
    (s.lineEvent l e).ListsActive := by
  cases e with
  | none => exact h
  | some e =>
    cases e with
    | locked => exact h
    | holdoverEntered => exact h
    | lost => exact h.loseLine l

theorem keeps_moveTracker (l : Line) (m : Move) (h : sound → s.ListsActive) :
    Keeps sound s (s.moveTracker l m) := by
  have hmoved : Keeps sound s { s with trackers := s.trackers.set l m.tracker } := .frame rfl rfl
  have hevent := hmoved.trans (keeps_lineEvent l m.event)
  unfold State.moveTracker
  dsimp only
  split
  · exact hevent
  · exact hevent.trans (keeps_announce _ fun hp =>
      ListsActive.lineEvent (s := { s with trackers := s.trackers.set l m.tracker }) (h hp) l m.event)

/-- A move that announces no boundary needs no more. -/
theorem keeps_moveTracker_silent (l : Line) {m : Move} (h : m.boundary = none) :
    Keeps sound s (s.moveTracker l m) := by
  have hmoved : Keeps sound s { s with trackers := s.trackers.set l m.tracker } := .frame rfl rfl
  unfold State.moveTracker
  simp only [h]
  exact hmoved.trans (keeps_lineEvent l m.event)

/-! ### Replies -/

theorem keeps_chooseNext : Keeps sound s s.chooseNext := .frame rfl rfl

/-- Answering a slot leaves all but the slot and the STATION detail. -/
theorem answer_frame (i : SlotIx) : (s.answer i).loads = s.loads ∧ (s.answer i).monitor = s.monitor ∧
    (s.answer i).scenes = s.scenes ∧ (s.answer i).link.holdStep = s.link.holdStep := by
  unfold State.answer
  split <;> exact ⟨rfl, rfl, rfl, rfl⟩

/-- A Reply reaches the records only through what its request does. -/
theorem keeps_takeReply (frame : List Byte) {handle : Request → Option (SlotIx → State → State)}
    (hclaims : sound → s.ClaimsOk)
    (h : ∀ r f, handle r = some f → ∀ i v, (sound → v.ClaimsOk) → Keeps sound v (f i v)) :
    Keeps sound s (s.takeReply frame handle) := by
  unfold State.takeReply
  split
  · exact .refl s
  · split
    · exact .refl s
    · rename_i q _ _ f hf
      obtain ⟨r, -, hr⟩ := Option.bind_eq_some_iff.1 hf
      refine Keeps.trans ?_ keeps_chooseNext
      have hend : Keeps sound s { s with link := s.link.endPoll s.now } := .frame rfl rfl
      split
      · exact hend
      · obtain ⟨hloads, hmonitor, hscenes, hstep⟩ :=
          answer_frame (s := { s with link := s.link.endPoll s.now }) q.slot
        have hanswer := hend.trans (.frame hloads (by rw [hmonitor]))
        refine hanswer.trans (h r f hr q.slot _ fun hp => ⟨?_, ?_⟩)
        · unfold State.ScenesOk
          rw [hscenes]
          exact (hclaims hp).1
        · rw [hstep, StationLink.endPoll_holdStep]
          exact (hclaims hp).2

/-- A request that is a duplicate or refused touches no record (R149, R150). -/
theorem keeps_judge (i : SlotIx) (seq : Bool) (refusal : Option Reason) {carryOut : State → State}
    (h : ∀ v : State, v.scenes = s.scenes → v.link.holdStep = s.link.holdStep →
      Keeps sound v (carryOut v)) : Keeps sound s (s.judge i seq refusal carryOut) := by
  unfold State.judge
  split
  · exact .refl s
  · split
    · exact .frame rfl rfl
    · exact Keeps.trans (u := s.modifySlot i _) (.frame rfl rfl) (h _ rfl rfl)

theorem keeps_takeIdle {r : Request} {f : SlotIx → State → State} (hf : r.takeIdle = some f)
    (i : SlotIx) : Keeps sound s (f i s) := by
  cases r with
  | idle =>
    obtain rfl := Option.some.inj hf
    exact .frame rfl rfl
  | _ => simp [Request.takeIdle] at hf

theorem keeps_takeRecall {r : Request} {f : SlotIx → State → State} (hf : r.takeRecall = some f)
    (i : SlotIx) (h : sound → s.ScenesOk) : Keeps sound s (f i s) := by
  match r, hf with
  | .recall n seq, hf =>
    obtain rfl := Option.some.inj hf
    refine keeps_judge i seq _ fun v hscenes _ => keeps_stationRecall i n fun hp => ?_
    unfold State.ScenesOk
    rw [hscenes]
    exact h hp

theorem keeps_takeRaise {r : Request} {f : SlotIx → State → State} (hf : r.takeRaise = some f)
    (i : SlotIx) (h : sound → 1 ≤ s.link.holdStep) : Keeps sound s (f i s) := by
  cases r with
  | raiseStart z seq =>
    obtain rfl := Option.some.inj hf
    exact keeps_judge i seq _ fun v _ hstep => keeps_startHold i z .raise fun hp => hstep ▸ h hp
  | _ => simp [Request.takeRaise] at hf

theorem keeps_takeLower {r : Request} {f : SlotIx → State → State} (hf : r.takeLower = some f)
    (i : SlotIx) (h : sound → 1 ≤ s.link.holdStep) : Keeps sound s (f i s) := by
  cases r with
  | lowerStart z seq =>
    obtain rfl := Option.some.inj hf
    exact keeps_judge i seq _ fun v _ hstep => keeps_startHold i z .lower fun hp => hstep ▸ h hp
  | _ => simp [Request.takeLower] at hf

theorem keeps_takeHoldStop {r : Request} {f : SlotIx → State → State} (hf : r.takeHoldStop = some f)
    (i : SlotIx) : Keeps sound s (f i s) := by
  cases r with
  | holdStop z seq =>
    obtain rfl := Option.some.inj hf
    exact keeps_judge i seq _ fun v _ _ => keeps_endHold i z
  | _ => simp [Request.takeHoldStop] at hf

theorem keeps_takeOff {r : Request} {f : SlotIx → State → State} (hf : r.takeOff = some f)
    (i : SlotIx) : Keeps sound s (f i s) := by
  cases r with
  | off z seq =>
    obtain rfl := Option.some.inj hf
    exact keeps_judge i seq _ fun v _ _ => keeps_zoneOff i z
  | _ => simp [Request.takeOff] at hf

/-- A failed poll settles the ramps of a hold at most (R148). -/
theorem keeps_failPoll (i : SlotIx) : Keeps sound s (s.failPoll i) := by
  unfold State.failPoll
  dsimp only
  split
  · exact .refl s
  · exact .refl s
  · split
    · exact .frame rfl rfl
    · exact (keeps_stopHoldOf i).trans (.frame rfl rfl)

/-! ### Trains -/

/-- The end of a pulse lists the next one, abandons the train or hands it over (R75). -/
theorem keeps_continueTrain (x : SlotPulse) (h : sound → (s.load x.load).state = .active) :
    Keeps sound s (s.continueTrain x) := by
  unfold State.continueTrain State.handOver
  dsimp only
  split
  · split
    · exact .frame rfl rfl
    · refine keeps_skipLoads fun hp n hn hv => ?_
      rw [eq_of_beq hn, h hp] at hv
      simp at hv
  · split
    · exact .frame rfl rfl
    · exact .refl s
end State

/-! ## Commands -/

section CommandResults

variable {α β : Type}

@[simp] theorem bind_eq_ok {x : Except Status α} {f : α → Except Status β} {b : β} :
    (x >>= f) = .ok b ↔ ∃ a, x = .ok a ∧ f a = .ok b := by
  cases x with
  | error e => simp
  | ok a => simp

@[simp] theorem argument_eq_ok {x : Option α} {a : α} : argument x = .ok a ↔ x = some a := by
  cases x <;> simp

@[simp] theorem require_eq_ok {holds : Bool} {failure : Status} {x : Unit} :
    require holds failure = .ok x ↔ holds = true := by
  cases holds <;> simp

@[simp] theorem present_eq_ok {x : Option α} {failure : Status} {a : α} :
    present x failure = .ok a ↔ x = some a := by
  cases x <;> simp [present]

@[simp] theorem pure_eq_ok {a b : α} : (pure a : Except Status α) = .ok b ↔ a = b := by
  simp [pure, Except.pure]

end CommandResults

/-- The command `c` executes the frames of code `code` by `body` (Table 11-3). -/
def Runs (t : Nat) (c : Instr) (code : Byte) (body : List Byte → State → CommandResult) : Prop :=
  ∀ s, exec c s = s.takes t fun s => s.execute code body

/-- Only valid configurations are read from a payload (R3). -/
theorem valid_of_configAt {p : List Byte} {i : Nat} {c : LoadConfig} (h : configAt p i = some c) :
    c.valid = true := by
  simp only [configAt, Option.bind_eq_bind, Option.bind_eq_some_iff, Option.ite_none_right_eq_some,
    Option.some.injEq] at h
  obtain ⟨_, -, _, -, _, -, hv, rfl⟩ := h
  exact hv

namespace State

variable {s u v : State} {sound : Prop} {p payload : List Byte}

/-! ### The bodies of the commands, where they carry their command out -/

theorem keeps_defineLoad (h : defineLoad p s = .ok (v, payload)) : Keeps sound s v := by
  simp only [defineLoad, bind_eq_ok, argument_eq_ok, require_eq_ok, pure_eq_ok, Prod.mk.injEq,
    State.inState, decide_eq_true_eq] at h
  obtain ⟨n, -, c, hc, -, hs, rfl, -⟩ := h
  exact keeps_modifyLoad (Record.keeps_of_not_live (by simp [hs]) fun _ _ =>
    Record.ok_defined (valid_of_configAt hc))

theorem keeps_enableLoad (h : enableLoad p s = .ok (v, payload)) : Keeps sound s v := by
  simp only [enableLoad, bind_eq_ok, argument_eq_ok, require_eq_ok, pure_eq_ok, Prod.mk.injEq,
    State.inState, decide_eq_true_eq] at h
  obtain ⟨n, -, -, -, -, hs, rfl, -⟩ := h
  exact keeps_modifyLoad (Record.keeps_of_live rfl (fun _ => .inl rfl) fun _ hok => hok.enable hs)

theorem keeps_disableLoad (h : disableLoad p s = .ok (v, payload)) : Keeps sound s v := by
  simp only [disableLoad, bind_eq_ok, argument_eq_ok, require_eq_ok, pure_eq_ok, Prod.mk.injEq,
    State.inState, decide_eq_true_eq] at h
  obtain ⟨n, -, -, hs, rfl, -⟩ := h
  have hoff : (s.load n).Keeps sound { (s.load n).leaveActive .defined with missCount := 0 } :=
    Record.keeps_of_live rfl (fun _ => .inr rfl) fun _ hok =>
      (hok.leaveActive hs).clearMiss (by simp [Record.leaveActive])
  have hcut : Keeps sound s ((s.modifyLoad n fun r =>
      { r.leaveActive .defined with missCount := 0 }).cutLoads fun m => m == n) :=
    (keeps_modifyLoad hoff).trans (keeps_cutLoads _)
  split
  · exact hcut.trans (keeps_applyMembers _)
  · exact hcut

theorem keeps_releaseLoad (h : releaseLoad p s = .ok (v, payload)) : Keeps sound s v := by
  simp only [releaseLoad, bind_eq_ok, argument_eq_ok, require_eq_ok, pure_eq_ok, Prod.mk.injEq] at h
  obtain ⟨n, -, -, -, -, -, rfl, -⟩ := h
  refine Keeps.of_leaveSamples (fun m => m == n) rfl (fun _ m hok => ?_) fun m hm l hl => ?_
  · change ((s.modifyLoad n fun _ => .vacant).load m).Ok
    by_cases hmn : m = n
    · subst hmn
      rw [load_modifyLoad_self]
      exact Record.ok_vacant
    · rwa [load_modifyLoad_ne s hmn]
  · change ((s.modifyLoad n fun _ => .vacant).load m).samples l = true
    rwa [load_modifyLoad_ne s (by simpa using hm)]

theorem keeps_setLevel (h : setLevel p s = .ok (v, payload)) : Keeps sound s v := by
  simp only [setLevel, bind_eq_ok, argument_eq_ok, require_eq_ok, pure_eq_ok, Prod.mk.injEq,
    State.inState, decide_eq_true_eq] at h
  obtain ⟨n, -, -, hrange, -, -, -, hs, rfl, -⟩ := h
  exact keeps_modifyLoad (Record.keeps_of_ok (Record.claim_state ..) (Record.claim_config ..) fun _ hok =>
    hok.claim hs hrange.1 ..)

theorem keeps_setLock (h : setLock p s = .ok (v, payload)) : Keeps sound s v := by
  simp only [setLock, bind_eq_ok, argument_eq_ok, require_eq_ok, pure_eq_ok, Prod.mk.injEq,
    State.inState, Bool.not_eq_true', decide_eq_false_iff_not] at h
  obtain ⟨n, -, on, -, -, hs, rfl, -⟩ := h
  exact keeps_modifyLoad (Record.keeps_of_ok rfl rfl fun _ hok => hok.setLock hs on)

theorem keeps_clearFault (h : clearFault p s = .ok (v, payload)) : Keeps sound s v := by
  simp only [clearFault, bind_eq_ok, argument_eq_ok, require_eq_ok, pure_eq_ok, Prod.mk.injEq,
    State.inState, decide_eq_true_eq] at h
  obtain ⟨n, -, -, hs, rfl, -⟩ := h
  exact keeps_modifyLoad (Record.keeps_of_not_live (by simp [hs]) fun _ hok =>
    hok.clearFault (by simp [hs]))

theorem keeps_readLoad (h : readLoad p s = .ok (v, payload)) : Keeps sound s v := by
  simp only [readLoad, bind_eq_ok, argument_eq_ok, pure_eq_ok, Prod.mk.injEq] at h
  obtain ⟨n, -, rfl, -⟩ := h
  exact keeps_modifyLoad (Record.keeps_of_ok rfl rfl fun _ hok => hok.clearSkip)

theorem keeps_stageLoad (h : stageLoad p s = .ok (v, payload)) : Keeps sound s v := by
  simp only [stageLoad, bind_eq_ok, argument_eq_ok, require_eq_ok, pure_eq_ok, Prod.mk.injEq,
    State.inState, Bool.not_eq_true', decide_eq_false_iff_not] at h
  obtain ⟨n, -, c, hc, -, hs, -, -, rfl, -⟩ := h
  exact keeps_modifyLoad (Record.keeps_of_ok rfl rfl fun _ hok =>
    hok.stage hs fun d hd => valid_of_configAt (hc.trans hd))

theorem keeps_discardStaged (h : discardStaged p s = .ok (v, payload)) : Keeps sound s v := by
  simp only [discardStaged, bind_eq_ok, argument_eq_ok, require_eq_ok, pure_eq_ok, Prod.mk.injEq,
    State.inState, Bool.not_eq_true', decide_eq_false_iff_not] at h
  obtain ⟨n, -, -, hs, -, -, rfl, -⟩ := h
  exact keeps_modifyLoad (Record.keeps_of_ok rfl rfl fun _ hok => hok.stage hs (by simp))

theorem keeps_commit (h : Sys2Proof.Machine.commit p s = .ok (v, payload)) : Keeps sound s v := by
  simp only [Sys2Proof.Machine.commit, bind_eq_ok, require_eq_ok, pure_eq_ok, Prod.mk.injEq] at h
  obtain ⟨-, -, rfl, -⟩ := h
  have hset : Keeps sound s { s with commit := ⟨.pending, s.stagedMembers, s.commit.seq + 1⟩ } :=
    .frame rfl rfl
  exact hset.trans (keeps_applyMembers _)

theorem keeps_configureLines (h : configureLines p s = .ok (v, payload)) : Keeps sound s v := by
  simp only [configureLines, bind_eq_ok, argument_eq_ok, pure_eq_ok, Prod.mk.injEq] at h
  obtain ⟨c, -, rfl, -⟩ := h
  have hmove (w : State) (before after : PerLine Bool) (l : Line) :
      Keeps sound w (w.configureTracker before after l) := by
    refine keeps_moveTracker_silent l ?_
    unfold Tracker.configure
    split
    · rfl
    · split <;> rfl
  have hset : Keeps sound s { s with lineConfig := c } := .frame rfl rfl
  exact ((hset.trans (hmove _ _ _ .a)).trans (hmove _ _ _ .b)).trans (hmove _ _ _ .c)

theorem keeps_recallSceneCommand (h : Sys2Proof.Machine.recallScene p s = .ok (v, payload))
    (hscenes : sound → s.ScenesOk) : Keeps sound s v := by
  simp only [Sys2Proof.Machine.recallScene, bind_eq_ok, argument_eq_ok, require_eq_ok,
    present_eq_ok, pure_eq_ok, Prod.mk.injEq] at h
  obtain ⟨n, -, fade, -, -, -, c, hc, rfl, -⟩ := h
  exact keeps_recallScene n _ _ fun hp => (hscenes hp n c hc).level_le

theorem keeps_configureLink (h : configureLink p s = .ok (v, payload)) : Keeps sound s v := by
  simp only [configureLink, bind_eq_ok, argument_eq_ok, pure_eq_ok, Prod.mk.injEq] at h
  obtain ⟨c, -, rfl, -⟩ := h
  unfold State.switchLink
  dsimp only
  split
  · exact Keeps.trans (Keeps.trans (u := { s with link := _ }) (.frame rfl rfl) (keeps_stopHolds _))
      (.frame rfl rfl)
  · split <;> exact .frame rfl rfl

theorem keeps_removeStation (h : removeStation p s = .ok (v, payload)) : Keeps sound s v := by
  simp only [removeStation, bind_eq_ok, argument_eq_ok, require_eq_ok, pure_eq_ok, Prod.mk.injEq] at h
  obtain ⟨i, -, -, -, rfl, -⟩ := h
  exact (keeps_stopHoldOf i).trans (.frame rfl rfl)

theorem keeps_enrollStation (h : enrollStation p s = .ok (v, payload)) : Keeps sound s v := by
  simp only [enrollStation, bind_eq_ok, require_eq_ok] at h
  obtain ⟨-, -, -, -, h⟩ := h
  split at h
  · simp at h
  · rw [pure_eq_ok, Prod.mk.injEq] at h
    obtain ⟨rfl, -⟩ := h
    exact .frame rfl rfl

/-! ### Commands that read, and commands on other blocks -/

theorem keeps_readLine (h : readLine p s = .ok (v, payload)) : Keeps sound s v := by
  simp only [readLine, bind_eq_ok, argument_eq_ok, pure_eq_ok, Prod.mk.injEq] at h
  obtain ⟨l, -, rfl, -⟩ := h
  exact .frame rfl rfl

theorem keeps_readCommit (h : readCommit p s = .ok (v, payload)) : Keeps sound s v := by
  obtain ⟨rfl, -⟩ := Prod.mk.inj (Except.ok.inj h)
  exact .refl s

theorem keeps_writeScene (h : writeScene p s = .ok (v, payload)) : Keeps sound s v := by
  simp only [writeScene, bind_eq_ok, argument_eq_ok, require_eq_ok, pure_eq_ok, Prod.mk.injEq] at h
  obtain ⟨n, -, c, -, -, -, rfl, -⟩ := h
  exact .frame rfl rfl

theorem keeps_deleteScene (h : deleteScene p s = .ok (v, payload)) : Keeps sound s v := by
  simp only [deleteScene, bind_eq_ok, argument_eq_ok, require_eq_ok, pure_eq_ok, Prod.mk.injEq] at h
  obtain ⟨n, -, -, -, rfl, -⟩ := h
  exact .frame rfl rfl

theorem keeps_readScene (h : readScene p s = .ok (v, payload)) : Keeps sound s v := by
  simp only [readScene, bind_eq_ok, argument_eq_ok, pure_eq_ok, Prod.mk.injEq] at h
  obtain ⟨n, -, rfl, -⟩ := h
  exact .refl s

theorem keeps_readPool (h : readPool p s = .ok (v, payload)) : Keeps sound s v := by
  obtain ⟨rfl, -⟩ := Prod.mk.inj (Except.ok.inj h)
  exact .refl s

theorem keeps_readStation (h : readStation p s = .ok (v, payload)) : Keeps sound s v := by
  simp only [readStation, bind_eq_ok, argument_eq_ok, pure_eq_ok, Prod.mk.injEq] at h
  obtain ⟨n, -, rfl, -⟩ := h
  exact .refl s

theorem keeps_readSummary (h : readSummary p s = .ok (v, payload)) : Keeps sound s v := by
  obtain ⟨rfl, -⟩ := Prod.mk.inj (Except.ok.inj h)
  exact .refl s

theorem keeps_readEvents (h : readEvents p s = .ok (v, payload)) : Keeps sound s v := by
  simp only [readEvents, bind_eq_ok, argument_eq_ok, pure_eq_ok, Prod.mk.injEq] at h
  obtain ⟨c, -, rfl, -⟩ := h
  exact .frame rfl rfl

theorem keeps_setEventMask (h : setEventMask p s = .ok (v, payload)) : Keeps sound s v := by
  simp only [setEventMask, bind_eq_ok, require_eq_ok, pure_eq_ok, Prod.mk.injEq] at h
  obtain ⟨-, -, rfl, -⟩ := h
  exact .frame rfl rfl

theorem keeps_identify (h : identify p s = .ok (v, payload)) : Keeps sound s v := by
  obtain ⟨rfl, -⟩ := Prod.mk.inj (Except.ok.inj h)
  exact .refl s

theorem keeps_allOff (h : Sys2Proof.Machine.allOff p s = .ok (v, payload)) : Keeps sound s v := by
  obtain ⟨rfl, -⟩ := Prod.mk.inj (Except.ok.inj h)
  exact keeps_takeAllOff.trans (.frame rfl rfl)

theorem keeps_restart (h : restart p s = .ok (v, payload)) : Keeps sound s v := by
  obtain ⟨rfl, -⟩ := Prod.mk.inj (Except.ok.inj h)
  exact keeps_reset rfl rfl

/-! ### The step -/

/-- What a command may rest on for the records: which loads are driven, which scenes are stored, which
settings the link has. -/
structure Premises (s : State) : Prop where
  firing : s.FiringOk
  scenes : s.ScenesOk
  link : s.LinkOk

theorem Premises.claimsOk (h : s.Premises) : s.ClaimsOk := by
  obtain ⟨⟨hstep, -⟩, -⟩ := h.link
  exact ⟨h.scenes, hstep⟩

theorem Premises.listsActive (h : s.Premises) : s.ListsActive := fun l e he => by
  obtain ⟨-, -, hlists, -⟩ := h.firing
  have hentry := hlists l e he
  cases e with
  | pulse x => exact Record.isActive_iff.1 hentry.1.1
  | held x => exact Record.isActive_iff.1 hentry.1

theorem Premises.slot_active (h : s.Premises) {x : SlotPulse} (hx : x ∈ s.firing.slots) :
    (s.load x.load).state = .active :=
  Record.isActive_iff.1 (h.firing.1 x hx).1

theorem Premises.waiting_active (h : s.Premises) {e : PulseEntry} (he : e ∈ s.firing.waiting) :
    (s.load e.load).state = .active :=
  Record.isActive_iff.1 (h.firing.2.1 e he).1

/-- What a command does with RST high decides; with RST low only the timebase moves. -/
theorem keeps_takes {t : Nat} {f : State → State} (h : s.takes t f = .next u)
    (hf : Keeps sound (s.at t) (f (s.at t))) : Keeps sound s u := by
  have hat : Keeps sound s (s.at t) := .frame rfl rfl
  cases hr : s.rstLow with
  | true =>
    rw [takes_low hr] at h
    obtain rfl := Host.Outcome.next.inj h
    exact hat
  | false =>
    rw [takes_high hr] at h
    obtain rfl := Host.Outcome.next.inj h
    exact hat.trans hf

/-- An execution keeps what the body of its command keeps. -/
theorem keeps_execute (code : Byte) {body : List Byte → State → CommandResult}
    (h : ∀ p v payload, body p s = .ok (v, payload) → Keeps sound s v) :
    Keeps sound s (s.execute code body) := by
  have hrespond (w : State) (status : Status) (x : List Byte) : Keeps sound w (w.respond status x) :=
    .frame rfl rfl
  unfold State.execute
  split
  · exact .refl s
  · split
    · split
      · rename_i f _ _ _
        cases hb : body f.payload s with
        | error status => exact hrespond s status []
        | ok r => exact (h f.payload r.1 r.2 hb).trans (hrespond r.1 .ok r.2)
      · exact hrespond s .badFrame []
    · exact .refl s

theorem keeps_runs {t : Nat} {c : Instr} {code : Byte} {body : List Byte → State → CommandResult}
    (hc : Runs t c code body) (h : exec c s = .next u)
    (hb : ∀ p v payload, body p (s.at t) = .ok (v, payload) → Keeps sound (s.at t) v) : Keeps sound s u :=
  keeps_takes (hc s ▸ h) (keeps_execute code hb)

/-! Events, one by one. -/

theorem keeps_execPowerOnReset (h : execPowerOnReset s = .next u) : Keeps sound s u := by
  obtain rfl := Host.Outcome.next.inj h
  split <;> exact keeps_reset rfl rfl

theorem keeps_execPinReset {t : Nat} (h : execPinReset t s = .next u) : Keeps sound s u :=
  keeps_takes h (keeps_reset rfl rfl)

theorem keeps_execPinResetEnd {t : Nat} (h : execPinResetEnd t s = .next u) : Keeps sound s u := by
  obtain rfl := Host.Outcome.next.inj h
  split <;> exact .frame rfl rfl

theorem keeps_execAlloffAssertion {t : Nat} (h : execAlloffAssertion t s = .next u) :
    Keeps sound s u := by
  have hat : Keeps sound s { s.at t with allOff := true } := .frame rfl rfl
  simp only [execAlloffAssertion] at h
  split at h
  · obtain rfl := Host.Outcome.next.inj h
    exact hat
  · obtain rfl := Host.Outcome.next.inj h
    exact (hat.trans keeps_takeAllOff).trans (.frame rfl rfl)

theorem keeps_execAlloffRelease {t : Nat} (h : execAlloffRelease t s = .next u) : Keeps sound s u := by
  simp only [execAlloffRelease] at h
  split at h <;> obtain rfl := Host.Outcome.next.inj h <;> exact .frame rfl rfl

theorem keeps_execZeroCrossEdge {t : Nat} {l : Line} {level : Bool}
    (h : execZeroCrossEdge t l level s = .next u)
    (hlists : sound → s.ListsActive) : Keeps sound s u := by
  have hzc : Keeps sound s { s with zc := s.zc.set l level } := .frame rfl rfl
  unfold execZeroCrossEdge at h
  exact hzc.trans (keeps_takes h (keeps_moveTracker _ _ hlists))

theorem keeps_execPulseEnd {t : Nat} {n : LoadIx} (h : execPulseEnd t n s = .next u)
    (hslots : sound → ∀ x ∈ s.firing.slots, (s.load x.load).state = .active) : Keeps sound s u := by
  refine keeps_takes h ?_
  split
  · exact .refl _
  · rename_i x hx
    refine Keeps.trans ?_ (keeps_continueTrain x fun hp => hslots hp x (List.mem_of_find?_eq_some hx))
    exact .frame rfl rfl

theorem keeps_execLatestStartPassed {t : Nat} {n : LoadIx} (h : execLatestStartPassed t n s = .next u)
    (hwaiting : sound → ∀ e ∈ s.firing.waiting, (s.load e.load).state = .active) : Keeps sound s u := by
  refine keeps_takes h ?_
  split
  · exact .refl _
  · rename_i e he
    have hload : e.load = n := by
      have := List.find?_some he
      simp only [Bool.and_eq_true, beq_iff_eq] at this
      exact this.1
    refine Keeps.trans (.frame rfl rfl) (keeps_skipLoads fun hp m hm hv => ?_)
    have ha := hwaiting hp e (List.mem_of_find?_eq_some he)
    rw [eq_of_beq hm, ← hload] at hv
    exact absurd (ha.symm.trans hv) (by decide)

theorem keeps_execHeldDriveStart {t : Nat} {n : LoadIx} (h : execHeldDriveStart t n s = .next u) :
    Keeps sound s u := by
  refine keeps_takes h ?_
  split
  · exact .refl _
  · exact .frame rfl rfl

theorem keeps_execHeldDriveEnd {t : Nat} {n : LoadIx} {level : Bool}
    (h : execHeldDriveEnd t n level s = .next u) : Keeps sound s u := by
  refine keeps_takes h ?_
  split
  · exact .refl _
  · have hsense : Keeps sound (s.at t) ((s.at t).sampleSense n level) := .frame rfl rfl
    exact (hsense.trans (keeps_judgeCheck n level)).trans (.frame rfl rfl)

theorem keeps_execPostFiringCheck {t : Nat} {n : LoadIx} {level : Bool}
    (h : execPostFiringCheck t n level s = .next u) : Keeps sound s u := by
  refine keeps_takes h ?_
  split
  · exact .refl _
  · refine Keeps.trans ?_ (keeps_judgeCheck n level)
    exact .frame rfl rfl

theorem keeps_execQuietSample {t : Nat} {l : Line} {levels : LoadSet}
    (h : execQuietSample t l levels s = .next u) : Keeps sound s u := by
  refine keeps_takes h ?_
  split
  · exact .refl _
  · split
    · refine Keeps.trans ?_ (keeps_sampleQuiet l _)
      exact keeps_dropQuiet l rfl rfl
    · exact .refl _

theorem keeps_execHoldExpiry {t : Nat} {i : SlotIx} (h : execHoldExpiry t i s = .next u) :
    Keeps sound s u := by
  refine keeps_takes h ?_
  split
  · exact .refl _
  · split
    · exact (keeps_stopHoldOf i).trans (.frame rfl rfl)
    · exact .refl _

theorem keeps_execPoll {t : Nat} (h : execPoll t s = .next u) : Keeps sound s u := by
  refine keeps_takes h ?_
  dsimp only
  split
  · split
    · exact .refl _
    · split
      · exact .refl _
      · exact .frame rfl rfl
  · exact .refl _

theorem keeps_execReplyWindowClose {t : Nat} (h : execReplyWindowClose t s = .next u) :
    Keeps sound s u := by
  refine keeps_takes h ?_
  split
  · exact .refl _
  · split
    · refine Keeps.trans ?_ keeps_chooseNext
      have hend : Keeps sound (s.at t) { s.at t with link := (s.at t).link.endPoll (s.at t).now } :=
        .frame rfl rfl
      split
      · exact hend
      · exact hend.trans (keeps_failPoll _)
    · exact .refl _

theorem keeps_execReplyNotValid {t : Nat} {frame : List Byte} (h : execReplyNotValid t frame s = .next u) :
    Keeps sound s u := by
  refine keeps_takes h ?_
  split
  · exact .refl _
  · split
    · split <;> exact .frame rfl rfl
    · exact .refl _

theorem keeps_execCommandWrite {t csFell : Nat} {frame : List Byte}
    (h : execCommandWrite t csFell frame s = .next u) : Keeps sound s u := by
  refine keeps_takes h ?_
  dsimp only
  split <;> exact .frame rfl rfl

theorem keeps_execResponseRead {t csFell clocked : Nat} (h : execResponseRead t csFell clocked s = .next u) :
    Keeps sound s u := by
  refine keeps_takes h ?_
  split <;> exact .frame rfl rfl

theorem keeps_execTransactionIgnored {t csFell : Nat} {bytes : List Byte}
    (h : execTransactionIgnored t csFell bytes s = .next u) : Keeps sound s u := by
  refine keeps_takes h ?_
  dsimp only
  split <;> exact .frame rfl rfl

theorem keeps_execUnknownCommand {t : Nat} (h : execUnknownCommand t s = .next u) : Keeps sound s u := by
  refine keeps_takes h ?_
  split
  · exact .refl _
  · split <;> exact .frame rfl rfl

theorem keeps_execFrameNotIntact {t : Nat} (h : execFrameNotIntact t s = .next u) : Keeps sound s u := by
  refine keeps_takes h ?_
  split
  · split <;> exact .frame rfl rfl
  · exact .refl _
  · exact .refl _

/-- Every command keeps the records, given the premises, and the quiet samples. -/
theorem keeps_exec (c : Instr) (h : exec c s = .next u) (hpre : sound → s.Premises) :
    Keeps sound s u := by
  have hclaims (t : Nat) (hp : sound) : (s.at t).ClaimsOk := (hpre hp).claimsOk
  have hlists (hp : sound) : s.ListsActive := (hpre hp).listsActive
  cases c with
  | powerOnReset => exact keeps_execPowerOnReset h
  | pinReset t => exact keeps_execPinReset h
  | pinResetEnd t => exact keeps_execPinResetEnd h
  | alloffAssertion t => exact keeps_execAlloffAssertion h
  | alloffRelease t => exact keeps_execAlloffRelease h
  | zeroCrossEdge t line level => exact keeps_execZeroCrossEdge h hlists
  | acquisitionTimeout t line =>
    exact keeps_takes (show execAcquisitionTimeout t line s = _ from h) (.frame rfl rfl)
  | acceptanceWindowClose t line =>
    exact keeps_takes (show execAcceptanceWindowClose t line s = _ from h) (keeps_moveTracker _ _ hlists)
  | pulseDue t => exact keeps_takes (show execPulseDue t s = _ from h) (.frame rfl rfl)
  | pulseEnd t load => exact keeps_execPulseEnd h fun hp _ => (hpre hp).slot_active
  | latestStartPassed t load => exact keeps_execLatestStartPassed h fun hp _ => (hpre hp).waiting_active
  | heldDriveStart t load => exact keeps_execHeldDriveStart h
  | heldDriveEnd t load level => exact keeps_execHeldDriveEnd h
  | postFiringCheck t load level => exact keeps_execPostFiringCheck h
  | quietSample t line levels => exact keeps_execQuietSample h
  | holdExpiry t slot => exact keeps_execHoldExpiry h
  | poll t => exact keeps_execPoll h
  | replyWindowClose t => exact keeps_execReplyWindowClose h
  | idle t frame =>
    exact keeps_takes (show execIdle t frame s = _ from h)
      (keeps_takeReply frame (hclaims t) fun _ _ hf i _ _ => keeps_takeIdle hf i)
  | raiseStart t frame =>
    exact keeps_takes (show execRaiseStart t frame s = _ from h)
      (keeps_takeReply frame (hclaims t) fun _ _ hf i _ hv => keeps_takeRaise hf i fun hp => (hv hp).2)
  | lowerStart t frame =>
    exact keeps_takes (show execLowerStart t frame s = _ from h)
      (keeps_takeReply frame (hclaims t) fun _ _ hf i _ hv => keeps_takeLower hf i fun hp => (hv hp).2)
  | holdStop t frame =>
    exact keeps_takes (show execHoldStop t frame s = _ from h)
      (keeps_takeReply frame (hclaims t) fun _ _ hf i _ _ => keeps_takeHoldStop hf i)
  | off t frame =>
    exact keeps_takes (show execOff t frame s = _ from h)
      (keeps_takeReply frame (hclaims t) fun _ _ hf i _ _ => keeps_takeOff hf i)
  | replyNotValid t frame => exact keeps_execReplyNotValid h
  | commandWrite t csFell frame => exact keeps_execCommandWrite h
  | responseRead t csFell clocked => exact keeps_execResponseRead h
  | transactionIgnored t csFell bytes => exact keeps_execTransactionIgnored h
  | unknownCommand t => exact keeps_execUnknownCommand h
  | frameNotIntact t => exact keeps_execFrameNotIntact h
  | configureLines t => exact keeps_runs (t := t) (fun _ => rfl) h fun _ _ _ => keeps_configureLines
  | readLine t => exact keeps_runs (t := t) (fun _ => rfl) h fun _ _ _ => keeps_readLine
  | defineLoad t => exact keeps_runs (t := t) (fun _ => rfl) h fun _ _ _ => keeps_defineLoad
  | enableLoad t => exact keeps_runs (t := t) (fun _ => rfl) h fun _ _ _ => keeps_enableLoad
  | disableLoad t => exact keeps_runs (t := t) (fun _ => rfl) h fun _ _ _ => keeps_disableLoad
  | releaseLoad t => exact keeps_runs (t := t) (fun _ => rfl) h fun _ _ _ => keeps_releaseLoad
  | setLevel t => exact keeps_runs (t := t) (fun _ => rfl) h fun _ _ _ => keeps_setLevel
  | setLock t => exact keeps_runs (t := t) (fun _ => rfl) h fun _ _ _ => keeps_setLock
  | clearFault t => exact keeps_runs (t := t) (fun _ => rfl) h fun _ _ _ => keeps_clearFault
  | readLoad t => exact keeps_runs (t := t) (fun _ => rfl) h fun _ _ _ => keeps_readLoad
  | stageLoad t => exact keeps_runs (t := t) (fun _ => rfl) h fun _ _ _ => keeps_stageLoad
  | discardStaged t => exact keeps_runs (t := t) (fun _ => rfl) h fun _ _ _ => keeps_discardStaged
  | commit t => exact keeps_runs (t := t) (fun _ => rfl) h fun _ _ _ => keeps_commit
  | readCommit t => exact keeps_runs (t := t) (fun _ => rfl) h fun _ _ _ => keeps_readCommit
  | writeScene t => exact keeps_runs (t := t) (fun _ => rfl) h fun _ _ _ => keeps_writeScene
  | deleteScene t => exact keeps_runs (t := t) (fun _ => rfl) h fun _ _ _ => keeps_deleteScene
  | readScene t => exact keeps_runs (t := t) (fun _ => rfl) h fun _ _ _ => keeps_readScene
  | recallScene t =>
    exact keeps_runs (t := t) (fun _ => rfl) h fun _ _ _ hb =>
      keeps_recallSceneCommand hb fun hp => (hclaims t hp).1
  | readPool t => exact keeps_runs (t := t) (fun _ => rfl) h fun _ _ _ => keeps_readPool
  | configureLink t => exact keeps_runs (t := t) (fun _ => rfl) h fun _ _ _ => keeps_configureLink
  | enrollStation t => exact keeps_runs (t := t) (fun _ => rfl) h fun _ _ _ => keeps_enrollStation
  | removeStation t => exact keeps_runs (t := t) (fun _ => rfl) h fun _ _ _ => keeps_removeStation
  | readStation t => exact keeps_runs (t := t) (fun _ => rfl) h fun _ _ _ => keeps_readStation
  | readSummary t => exact keeps_runs (t := t) (fun _ => rfl) h fun _ _ _ => keeps_readSummary
  | readEvents t => exact keeps_runs (t := t) (fun _ => rfl) h fun _ _ _ => keeps_readEvents
  | setEventMask t => exact keeps_runs (t := t) (fun _ => rfl) h fun _ _ _ => keeps_setEventMask
  | allOff t => exact keeps_runs (t := t) (fun _ => rfl) h fun _ _ _ => keeps_allOff
  | identify t => exact keeps_runs (t := t) (fun _ => rfl) h fun _ _ _ => keeps_identify
  | restart t => exact keeps_runs (t := t) (fun _ => rfl) h fun _ _ _ => keeps_restart
  | _ =>
    -- The RECALL row: its constructor is named by a word that Mathlib reserves.
    rename_i t frame
    exact keeps_takes (show execRecall t frame s = _ from h)
      (keeps_takeReply frame (hclaims t) fun _ _ hf i _ hv => keeps_takeRecall hf i fun hp => (hv hp).1)

theorem keeps_step (h : step s = .next u) (hpre : sound → s.Premises) : Keeps sound s u := by
  unfold step at h
  split at h
  · obtain rfl := Host.Outcome.next.inj h
    exact .refl s
  · rename_i c rest _
    have hrest : Keeps sound s { s with pending := rest } := .frame rfl rfl
    exact hrest.trans (keeps_exec c h fun hp => ⟨(hpre hp).firing, (hpre hp).scenes, (hpre hp).link⟩)

end State

/-- Settles O6: a step keeps the records under the premises (`sound` holds), and the quiet samples of any
state (without `sound`). -/
theorem stepKeepsRecords : Obligations.StepKeepsRecords :=
  ⟨fun _ _ hr hf hs hl h => (State.keeps_step h fun _ => ⟨hf, hs, hl⟩).1 trivial hr,
    fun _ _ hs h => (State.keeps_step h (sound := False) False.elim).2 hs⟩

end Sys2Proof.Machine
end

section
/-!
SUPPORT. What the resets and RST do.
-/

namespace Sys2Proof.Machine

/-! ## Resets -/

/-- Settles O3. -/
theorem resetSatisfiesInvariants : Obligations.ResetSatisfiesInvariants where
  records n := by
    rw [show State.reset.load n = .vacant from Table.get_fill _ _]
    exact Record.ok_vacant
  pool := show _ = _ by decide +kernel
  scenes n c hc := by simp [State.reset, SceneStore.reset] at hc
  trackers := by
    refine ⟨by simp only [LineConfig.Ok]; decide, fun l => ?_⟩
    cases l <;> simp [State.reset, Tracker.reset, Lock.Ok, LineConfig.default, PerLine.fill, PerLine.get]
  slots := Nat.zero_le _
  waiting := List.Pairwise.nil
  firing := by simp [State.FiringOk, State.reset, Firing.reset]
  samples l q hq := by simp [State.reset, Monitor.reset] at hq
  commit := by simp [State.CommitOk, State.reset, CommitUnit.reset]
  link := by
    have hslot (i : SlotIx) : State.reset.link.slots.get i = .vacated := Table.get_fill _ _
    refine ⟨by simp [StationLink.SettingsOk, State.reset, StationLink.reset], fun i => ?_, ?_, ?_, ?_, ?_⟩
    · rw [show State.reset.slot i = .vacated from hslot i]
      rfl
    · intro i j _ e he
      simp [hslot, StationSlot.vacated] at he
    · intro q hq
      simp [State.reset, StationLink.reset] at hq
    · intro c hc
      simp [State.reset, StationLink.reset] at hc
    · intro he
      simp [State.reset, StationLink.reset] at he
  holds n x hx := by
    rw [show State.reset.load n = .vacant from Table.get_fill _ _] at hx
    simp [Record.vacant] at hx

/-- Settles O14: with RST low the part stays in reset, with RST high the reset ends at once. -/
theorem powerOnResetGivesResetState : Obligations.PowerOnResetGivesResetState := by
  intro s
  cases hr : s.rstLow <;> simp [exec, execPowerOnReset, hr] <;> rfl

namespace State

/-- What the part may change while RST is low: the timebase and the levels of its inputs (R28, R84, R91). -/
def HeldInReset (s : State) (c : Instr) : Prop :=
  ∃ now level zc, exec c s = .next { s with now := now, allOff := level, zc := zc } ∧ s.now ≤ now ∧
    (level = s.allOff ∨ ∃ t, (c = .alloffAssertion t ∧ level = true) ∨
      (c = .alloffRelease t ∧ level = false)) ∧
    (zc = s.zc ∨ ∃ t l high, c = .zeroCrossEdge t l high ∧ zc = s.zc.set l high)

/-- A command that is taken does nothing but move the timebase while RST is low. -/
theorem heldInReset_of_at {s : State} {c : Instr} {t : Nat} (h : exec c s = .next (s.at t)) :
    s.HeldInReset c :=
  ⟨max s.now t, s.allOff, s.zc, h, Nat.le_max_left _ _, .inl rfl, .inl rfl⟩

theorem heldInReset {s : State} (hr : s.rstLow = true) (c : Instr) (hpower : c ≠ .powerOnReset)
    (hend : ∀ t, c ≠ .pinResetEnd t) : s.HeldInReset c := by
  cases c with
  | powerOnReset => exact absurd rfl hpower
  | pinResetEnd t => exact absurd rfl (hend t)
  | alloffAssertion t =>
    refine ⟨max s.now t, true, s.zc, ?_, Nat.le_max_left _ _, .inr ⟨t, .inl ⟨rfl, rfl⟩⟩, .inl rfl⟩
    simp [exec, execAlloffAssertion, hr, State.at]
  | alloffRelease t =>
    refine ⟨max s.now t, false, s.zc, ?_, Nat.le_max_left _ _, .inr ⟨t, .inr ⟨rfl, rfl⟩⟩, .inl rfl⟩
    simp [exec, execAlloffRelease, hr, State.at]
  | zeroCrossEdge t l level =>
    refine ⟨max s.now t, s.allOff, s.zc.set l level, ?_, Nat.le_max_left _ _, .inl rfl,
      .inr ⟨t, l, level, rfl, rfl⟩⟩
    exact congrArg Host.Outcome.next (if_pos hr)
  | _ => exact heldInReset_of_at (congrArg Host.Outcome.next (if_pos hr))

end State

/-- PIN_RESET with RST high gives every block its reset values. -/
theorem exec_pinReset {s : State} (hr : s.rstLow = false) (t : Nat) :
    exec (.pinReset t) s = .next { s.at t with rstLow := true }.hardReset :=
  congrArg Host.Outcome.next (if_neg (by simp [hr]))

theorem exec_pinResetEnd {s : State} (hr : s.rstLow = true) (t : Nat) :
    exec (.pinResetEnd t) s = .next { s.at t with rstLow := false }.endReset :=
  congrArg Host.Outcome.next (if_pos hr)

/-- A reset that ends leaves SAFETY pending (R183). -/
theorem attn_endReset {s : State} (hmask : s.attention.isMasked .safety = false) :
    s.endReset.attn = true := by
  have hpending : (Attention.afterReset s.attention.mask s.allOff).isPending .safety = true := by
    simp [Attention.isPending, Attention.afterReset, SafetyDetail.empty]
  have hunmasked : (Attention.afterReset s.attention.mask s.allOff).isMasked .safety = false := hmask
  exact List.any_eq_true.2 ⟨.safety, by simp [EventClass.all], by simp [hpending, hunmasked]⟩

/-- Settles O15. -/
theorem pinResetHoldsThenEnds : Obligations.PinResetHoldsThenEnds := by
  refine ⟨fun s t hr => ?_, fun s c hr => State.heldInReset hr c, fun s t hr => ?_⟩
  · have hattn : (Attention.cleared 0).attn = false := by decide
    exact ⟨_, exec_pinReset hr t, rfl, fun _ => rfl, hattn, rfl⟩
  · exact ⟨_, exec_pinResetEnd hr t, rfl, attn_endReset⟩

end Sys2Proof.Machine
end

section
/-!
SUPPORT. What an execution answers: refusals, and the commands on one load record.
-/

namespace Sys2Proof.Machine

/-! ## Executions -/

/-- Each execution has one body, and its code a length rule. -/
theorem runs_of_mem_executions {t : Nat} {code : Byte} {c : Instr} (h : (code, c) ∈ executions t) :
    ∃ body r, Runs t c code body ∧ lengthRule code = some r := by
  simp only [executions, List.mem_cons, List.not_mem_nil, or_false, Prod.mk.injEq] at h
  rcases h with h | h | h | h | h | h | h | h | h | h | h | h | h | h | h | h | h | h | h | h | h | h | h |
      h | h | h | h | h | h <;>
    obtain ⟨rfl, rfl⟩ := h <;> exact ⟨_, _, fun _ => rfl, rfl⟩

namespace State.Executing

variable {s : State} {t : Nat} {c : Instr} {code : Byte} {p : List Byte}
  {body : List Byte → State → CommandResult}

/-- An execution: the length check, then the body of the command (R166, R167). -/
theorem exec_eq (h : s.Executing code p) (hc : Runs t c code body) {r : LengthRule}
    (hr : lengthRule code = some r) : exec c s = .next (if r.holds p then
      (s.at t).answerWith (body p (s.at t)) else (s.at t).respond .badFrame []) := by
  rw [hc]
  split
  · rename_i hp
    exact h.answers t hr hp body
  · rename_i hp
    exact h.badLength t hr (by simpa using hp) body

/-- A body that carries out its command is answered OK with its payload. -/
theorem exec_ok (h : s.Executing code p) (hc : Runs t c code body) {r : LengthRule}
    (hr : lengthRule code = some r) (hp : r.holds p = true) {v : State} {payload : List Byte}
    (hb : body p (s.at t) = .ok (v, payload)) : exec c s = .next (v.respond .ok payload) := by
  rw [h.exec_eq hc hr, if_pos hp, hb, answerWith_ok]

/-- A body that refuses its command is answered with its status and changes nothing (R167). -/
theorem exec_error (h : s.Executing code p) (hc : Runs t c code body) {r : LengthRule}
    (hr : lengthRule code = some r) (hp : r.holds p = true) {status : Status}
    (hb : body p (s.at t) = .error status) : ∃ u, exec c s = .next u ∧ s.Refuses u t status := by
  refine ⟨_, ?_, s.refuses_respond t status⟩
  rw [h.exec_eq hc hr, if_pos hp, hb, answerWith_error]

/-- A command whose body changes one record. -/
theorem exec_modifyLoad (h : s.Executing code p) (hc : Runs t c code body) {r : LengthRule}
    (hr : lengthRule code = some r) (hp : r.holds p = true) {n : LoadIx} {f : Record → Record}
    (hb : body p (s.at t) = .ok ((s.at t).modifyLoad n f, [])) :
    ∃ u, exec c s = .next u ∧ s.SetsRecord u t n (f (s.load n)) :=
  ⟨_, h.exec_ok hc hr hp hb, s.setsRecord_modifyLoad t n f⟩

end State.Executing

/-- Settles O42. -/
theorem refusedCommandChangesNothing : Obligations.RefusedCommandChangesNothing := by
  intro s u t code p c r hmem hexec hu hr hstatus
  obtain ⟨body, rule, hc, hrule⟩ := runs_of_mem_executions hmem
  rw [hexec.exec_eq hc hrule] at hu
  obtain rfl := Host.Outcome.next.inj hu
  split at hr
  · rename_i hp
    rw [if_pos hp]
    cases hb : body p (s.at t) with
    | error status =>
      rw [hb] at hr
      obtain rfl := UnitState.responseReady.inj hr
      exact s.refuses_respond t status
    | ok result =>
      rw [hb] at hr
      obtain rfl := UnitState.responseReady.inj hr
      exact absurd rfl hstatus
  · rename_i hp
    rw [if_neg hp]
    obtain rfl := UnitState.responseReady.inj hr
    exact s.refuses_respond t .badFrame

/-! ### Refusals of the load commands -/

/-- A command that reads its load index first refuses one above 23 (R1). -/
theorem index_refused {p : List Byte} (h : 24 ≤ byteAt p 0) (f : LoadIx → CommandResult) :
    (argument (indexAt 24 p 0) >>= f) = .error .badArgument := by
  have hnone : indexAt 24 p 0 = none := by simp [indexAt, Nat.not_lt.2 h]
  rw [hnone, argument_none, error_bind]

/-- The commands of codes 0x20 to 0x31 read their load index first. -/
theorem runs_of_mem_loadCommands {t : Nat} {code : Byte} {c : Instr} (h : (code, c) ∈ executions t)
    (hcode : 0x20#8 ≤ code ∧ code ≤ 0x31#8) : ∃ body, Runs t c code body ∧
      ∀ p s, 24 ≤ byteAt p 0 → body p s = .error .badArgument := by
  have hload : (code, c) ∈ (executions t).filter fun x => decide (0x20#8 ≤ x.1 ∧ x.1 ≤ 0x31#8) :=
    List.mem_filter.2 ⟨h, by simpa using hcode⟩
  have hlist : (executions t).filter (fun x => decide (0x20#8 ≤ x.1 ∧ x.1 ≤ 0x31#8)) =
      [(0x20#8, .defineLoad t), (0x21#8, .enableLoad t), (0x22#8, .disableLoad t),
        (0x23#8, .releaseLoad t), (0x24#8, .setLevel t), (0x25#8, .setLock t), (0x26#8, .clearFault t),
        (0x27#8, .readLoad t), (0x30#8, .stageLoad t), (0x31#8, .discardStaged t)] := rfl
  rw [hlist] at hload
  simp only [List.mem_cons, List.not_mem_nil, or_false, Prod.mk.injEq] at hload
  rcases hload with h | h | h | h | h | h | h | h | h | h <;> obtain ⟨rfl, rfl⟩ := h <;>
    exact ⟨_, fun _ => rfl, fun _ _ hp => index_refused hp _⟩

/-- The fields of a SET_LEVEL payload read back as they were sent (R186). -/
theorem setLevel_fields (b : Byte) {level fade : Nat} (hl : level ≤ 1000) (hf : fade ≤ 6000) :
    wordAt (b :: (word level ++ word fade)) 1 = level ∧
      wordAt (b :: (word level ++ word fade)) 3 = fade := by
  have hlevel := wordAt_word (show level < 65536 by omega) (word fade)
  have hfade := wordAt_word (show fade < 65536 by omega) []
  rw [List.append_nil] at hfade
  exact ⟨hlevel, hfade⟩

/-- A valid configuration set reads back as it was sent (R3, R186). -/
theorem configAt_of_valid (b : Byte) {c : LoadConfig} (hc : c.valid = true) :
    configAt (b :: configBytes c) 1 = some c := by
  have hpos := LoadConfig.missLimit_pos hc
  have hmax : c.missLimit ≤ 15 := by
    simp only [LoadConfig.valid, Bool.and_eq_true, decide_eq_true_eq] at hc
    omega
  exact configAt_configBytes b hc (carried := c.missLimit) (by rw [if_neg (by omega)]) hmax

/-- Settles O43. -/
theorem loadCommandsRefuseByState : Obligations.LoadCommandsRefuseByState := by
  intro s t
  refine ⟨fun code c p hmem hcode ⟨r, hr, hp⟩ h hindex => ?_, fun n => ?_⟩
  · obtain ⟨body, hc, hbody⟩ := runs_of_mem_loadCommands hmem hcode
    exact h.exec_error hc hr hp (hbody p _ hindex)
  · have hn (p : List Byte) : indexAt 24 (byte n.val :: p) 0 = some n := indexAt_byte n (by decide) p
    refine ⟨fun h hi => ?_, fun h hi hs => ?_, fun h hs => ?_, fun h hs => ?_, fun h hs hm => ?_,
      fun h hs => ?_, fun on h hs => ?_, fun c hc h hs => ?_,
      fun level fade hl hf h => ⟨fun hi => ?_, fun hi hs => ?_⟩⟩
    · exact h.exec_error (fun _ => rfl) rfl rfl (body := enableLoad) (by simp [enableLoad, hn, hi])
    · exact h.exec_error (fun _ => rfl) rfl rfl (body := enableLoad)
        (by simp [enableLoad, hn, hi, State.inState, hs])
    · exact h.exec_error (fun _ => rfl) rfl rfl (body := disableLoad)
        (by simp [disableLoad, hn, State.inState, hs])
    · exact h.exec_error (fun _ => rfl) rfl rfl (body := releaseLoad)
        (by rcases hs with hs | hs <;> simp [releaseLoad, hn, State.inState, hs])
    · have hm' : (s.at t).isMember n = true := hm
      exact h.exec_error (fun _ => rfl) rfl rfl (body := releaseLoad)
        (by rcases hs with hs | hs <;> simp [releaseLoad, hn, State.inState, hs, hm'])
    · exact h.exec_error (fun _ => rfl) rfl rfl (body := clearFault)
        (by simp [clearFault, hn, State.inState, hs])
    · exact h.exec_error (fun _ => rfl) rfl rfl (body := setLock)
        (by simp [setLock, hn, boolAt_flagByte, State.inState, hs])
    · have hconfig := configAt_of_valid (byte n.val) hc
      exact h.exec_error (fun _ => rfl) rfl rfl (body := defineLoad)
        (by simp [defineLoad, hn, hconfig, State.inState, hs])
    · obtain ⟨h1, h3⟩ := setLevel_fields (byte n.val) hl hf
      exact h.exec_error (fun _ => rfl) rfl rfl (body := setLevel)
        (by simp [setLevel, hn, h1, h3, hl, hf, hi])
    · obtain ⟨h1, h3⟩ := setLevel_fields (byte n.val) hl hf
      exact h.exec_error (fun _ => rfl) rfl rfl (body := setLevel)
        (by simp [setLevel, hn, h1, h3, hl, hf, hi, State.inState, hs])

/-! ### Commands on one record -/

/-- The load taken off and cut, before the apply of R112. -/
def State.disabled (s : State) (n : LoadIx) : State :=
  (s.modifyLoad n fun r => { r.leaveActive .defined with missCount := 0 }).cutLoads fun m => m == n

section bodies

variable {p : List Byte} {s : State} {n : LoadIx}

theorem defineLoad_ok {c : LoadConfig} (hn : indexAt 24 p 0 = some n) (hc : configAt p 1 = some c)
    (hs : (s.load n).state = .vacant) : defineLoad p s =
      .ok (s.modifyLoad n fun _ => { Record.vacant with state := .defined, config := some c }, []) := by
  simp [defineLoad, hn, hc, State.inState, hs]

theorem enableLoad_ok (hn : indexAt 24 p 0 = some n) (hi : s.firing.inhibit = false)
    (hs : (s.load n).state = .defined) : enableLoad p s = .ok (s.modifyLoad n fun r =>
      { r with
        state := .active, currentLevel := 0, targetLevel := 0, ramp := none
        burstAccumulator := 0, burstCycleOn := false, missCount := 0 }, []) := by
  simp [enableLoad, hn, hi, State.inState, hs]

theorem clearFault_ok (hn : indexAt 24 p 0 = some n) (hs : (s.load n).state = .faulted) :
    clearFault p s = .ok (s.modifyLoad n fun r =>
      { r.leaveActive .defined with faultCause := none, missCount := 0, stuckCount := 0 }, []) := by
  simp [clearFault, hn, State.inState, hs]

theorem setLock_ok {on : Bool} (hn : indexAt 24 p 0 = some n) (hon : boolAt p 1 = some on)
    (hs : (s.load n).state ≠ .vacant) :
    setLock p s = .ok (s.modifyLoad n fun r => { r with stationLock := on }, []) := by
  simp [setLock, hn, hon, State.inState, hs]

theorem releaseLoad_ok (hn : indexAt 24 p 0 = some n)
    (hs : (s.load n).state = .defined ∨ (s.load n).state = .faulted) (hm : s.isMember n = false) :
    releaseLoad p s = .ok ({ s.modifyLoad n fun _ => .vacant with
      monitor := (s.monitor.removeChecks fun m => m == n).leaveSamples fun m => m == n }, []) := by
  rcases hs with hs | hs <;> simp [releaseLoad, hn, State.inState, hs, hm]

theorem disableLoad_ok (hn : indexAt 24 p 0 = some n) (hs : (s.load n).state = .active) :
    disableLoad p s = .ok (if s.isMember n then (s.disabled n).applyMembers fun m => m == n
      else s.disabled n, []) := by
  simp [disableLoad, hn, State.inState, hs]
  rfl

theorem readLoad_ok (hn : indexAt 24 p 0 = some n) : readLoad p s =
    .ok (s.modifyLoad n fun r => { r with skipCount := 0 }, recordImage (s.load n)) := by
  simp [readLoad, hn]

end bodies

/-- Settles O44. -/
theorem defineLoadWritesRecord : Obligations.DefineLoadWritesRecord := by
  intro s t n c carried hc hm hle h hs
  exact h.exec_modifyLoad (fun _ => rfl) rfl rfl
    (defineLoad_ok (indexAt_byte n (by decide) _) (configAt_configBytes _ hc hm hle) hs)

/-- Settles O45. -/
theorem enableReleaseClearAndLock : Obligations.EnableReleaseClearAndLock := by
  refine ⟨fun s t n => ?_, fun s t n h hs hm => ?_⟩
  · have hn (p : List Byte) : indexAt 24 (byte n.val :: p) 0 = some n := indexAt_byte n (by decide) p
    refine ⟨fun h hi hs => ?_, fun h hs => ?_, fun on h hs => ?_⟩
    · exact h.exec_modifyLoad (fun _ => rfl) rfl rfl (enableLoad_ok (hn []) hi hs)
    · exact h.exec_modifyLoad (fun _ => rfl) rfl rfl (clearFault_ok (hn []) hs)
    · exact h.exec_modifyLoad (fun _ => rfl) rfl rfl (setLock_ok (hn _) (boolAt_flagByte on []) hs)
  · refine ⟨_, h.exec_ok (fun _ => rfl) rfl rfl (releaseLoad_ok (indexAt_byte n (by decide) []) hs hm),
      ?_, fun m hmn => ?_, fun c => ?_, fun l => ?_, rfl, rfl⟩
    · exact State.load_modifyLoad_self (s.at t) n _
    · exact State.load_modifyLoad_ne (s.at t) hmn _
    · simp [Monitor.removeChecks]
    · simpa using State.leaveSample_leaveSamples (s := s) (p := fun m => m == n) (l := l) rfl

/-! ### DISABLE_LOAD -/

namespace State

/-- An apply touches the records, the gates, the monitor, the Commit Unit and the COMMIT detail. (The
Command Unit, which it keeps, is named for the frame of the answered command.) -/
theorem applyMembers_frame (s : State) (p : LoadIx → Bool) : s.applyMembers p = { s with
    loads := (s.applyMembers p).loads, firing := (s.applyMembers p).firing
    monitor := (s.applyMembers p).monitor, commit := (s.applyMembers p).commit
    attention := (s.applyMembers p).attention, port := (s.applyMembers p).port } := by
  simp only [applyMembers, completeCommit]
  split <;> rfl

/-- A response built after a command that left the Command Unit alone answers the command. -/
theorem answers_respond_of_port {s w : State} (h : w.port = s.port) (status : Status) (p : List Byte) :
    s.Answers (w.respond status p) status p := by
  unfold Answers
  rw [← h]
  rfl

theorem NoGateActivity.congr {s u : State} {n : LoadIx} (h : s.NoGateActivity n)
    (hf : u.firing = s.firing) (hc : u.monitor.checks = s.monitor.checks) : u.NoGateActivity n := by
  unfold NoGateActivity gate at h ⊢
  rwa [hf, hc]

/-- A load without gate activity has none after an apply. -/
theorem NoGateActivity.applyMembers {s : State} {n : LoadIx} (h : s.NoGateActivity n)
    (p : LoadIx → Bool) : (s.applyMembers p).NoGateActivity n := by
  refine (h.cutLoads fun m => p m && (s.load m).changesLine).congr (applyMembers_firing s p) ?_
  simp [State.applyMembers, Monitor.removeChecks]

/-- A cut leaves the pulses of other loads in their slots. -/
theorem mem_slots_cutLoads {s : State} {p : LoadIx → Bool} {x : SlotPulse} (hx : x ∈ s.firing.slots)
    (hp : p x.load = false) : x ∈ (s.cutLoads p).firing.slots :=
  Firing.mem_grant_of_mem _ _ ((Firing.mem_remove_slots _ _).2 ⟨hx, hp⟩)

theorem mem_slots_applyMembers {s : State} {p : LoadIx → Bool} {x : SlotPulse} (hx : x ∈ s.firing.slots)
    (hp : p x.load = false) : x ∈ (s.applyMembers p).firing.slots := by
  rw [applyMembers_firing]
  exact Firing.mem_grant_of_mem _ _ ((Firing.mem_remove_slots _ _).2 ⟨hx, by simp [hp]⟩)

theorem load_disabled_self (s : State) (n : LoadIx) :
    (s.disabled n).load n = { (s.load n).leaveActive .defined with missCount := 0 } :=
  load_modifyLoad_self s n _

theorem load_disabled_ne (s : State) {m n : LoadIx} (h : m ≠ n) : (s.disabled n).load m = s.load m :=
  load_modifyLoad_ne s h _

theorem noGateActivity_disabled (s : State) (n : LoadIx) : (s.disabled n).NoGateActivity n :=
  noGateActivity_cutLoads _ (beq_self_eq_true n)

theorem mem_slots_disabled {s : State} {n : LoadIx} {x : SlotPulse} (hx : x ∈ s.firing.slots)
    (hn : x.load ≠ n) : x ∈ (s.disabled n).firing.slots :=
  mem_slots_cutLoads hx (beq_eq_false_iff_ne.2 hn)

end State

/-- Settles O46. -/
theorem disableLoadCutsAndApplies : Obligations.DisableLoadCutsAndApplies := by
  intro s t n h hs off
  have hok := disableLoad_ok (s := s.at t) (indexAt_byte n (by decide) []) hs
  have hself : ((s.at t).disabled n).load n = off := State.load_disabled_self (s.at t) n
  have hother {m : LoadIx} (hm : m ≠ n) : ((s.at t).disabled n).load m = s.load m :=
    State.load_disabled_ne (s.at t) hm
  have hgates := State.noGateActivity_disabled (s.at t) n
  have hmember : (s.at t).isMember n = s.isMember n := rfl
  cases hm : s.isMember n with
  | false =>
    simp only [hmember, hm, Bool.false_eq_true, if_false] at hok
    exact ⟨_, h.exec_ok (fun _ => rfl) rfl rfl hok, hgates, fun m => hother, rfl,
      fun x hx => State.mem_slots_disabled (s := s.at t) hx, fun _ => ⟨hself, rfl⟩,
      fun hn => by simp at hn⟩
  | true =>
    simp only [hmember, hm, if_true] at hok
    refine ⟨_, h.exec_ok (fun _ => rfl) rfl rfl hok, hgates.applyMembers _, fun m hmn => ?_,
      State.answers_respond_of_port (State.applyMembers_port _ _) .ok [], fun x hx hxn => ?_,
      fun hn => by simp at hn, fun _ => ⟨?_, fun m => ?_, ?_⟩⟩
    · exact (State.load_applyMembers _ _ m).trans ((if_neg (by simpa using hmn)).trans (hother hmn))
    · exact State.mem_slots_applyMembers (State.mem_slots_disabled (s := s.at t) hx hxn)
        (by simpa using hxn)
    · exact (State.load_applyMembers _ _ n).trans ((if_pos (by simp)).trans (by rw [hself]))
    · simp [State.disabled]
    · conv_lhs => rw [State.applyMembers_frame]
      rfl

end Sys2Proof.Machine
end

section
/-!
SUPPORT. The choice of the next slot to poll, and RESTART.
-/

namespace Sys2Proof.Machine

/-! ## The choice of the next slot to poll (R146) -/

namespace StationLink

variable (k : StationLink)

theorem chooseInRound_eq_none : k.chooseInRound = none ↔ ∀ c, ¬ k.Picks c := by
  simp only [Option.eq_none_iff_forall_ne_some, ne_eq, chooseInRound_eq_some]

/-- A pick is of a slot in use. -/
theorem Picks.exists_inUse {k : StationLink} {c : Choice} (h : k.Picks c) :
    ∃ i, (k.slots.get i).state ≠ .empty := by
  cases c with
  | online i =>
    obtain ⟨-, ⟨hi, -⟩, -⟩ := h
    exact ⟨i, by simp [hi]⟩
  | rediscovery i =>
    obtain ⟨-, -, hi, -⟩ := h
    exact ⟨i, by simp [hi]⟩

theorem nextOffline_eq_none : k.nextOffline = none ↔ ∀ i, (k.slots.get i).state ≠ .offline := by
  unfold nextOffline
  rw [List.find?_eq_none]
  simp [lt_or_ge]

/-- A new round with a slot in use has a pick. -/
theorem newRound_picks (h : ∃ i, (k.slots.get i).state ≠ .empty) : ∃ c, k.newRound.Picks c := by
  obtain ⟨i, hi⟩ := h
  by_contra hnone
  have hround := k.newRound.chooseInRound_eq_none.2 fun c hc => hnone ⟨c, hc⟩
  unfold chooseInRound at hround
  simp only [newRound, Bool.false_eq_true, if_false] at hround
  split at hround
  · simp at hround
  · rename_i honline
    rw [Option.map_eq_none_iff, nextOffline_eq_none] at hround
    have hahead := (nextOnline_eq_none _).1 honline i
    cases hstate : (k.slots.get i).state with
    | empty => exact hi hstate
    | offline => exact hround i hstate
    | online => exact hahead ⟨hstate, by simp⟩

theorem chooseNext_off {k : StationLink} (he : k.enable = false) :
    k.chooseNext = { k with chosen := none } := by
  simp [chooseNext, he]

theorem chooseNext_inRound {k : StationLink} {c : Choice} (he : k.enable = true)
    (hc : k.chooseInRound = some c) : k.chooseNext = { k with chosen := some c } := by
  unfold chooseNext
  rw [if_pos he, hc]

theorem chooseNext_newRound {k : StationLink} (he : k.enable = true) (hc : k.chooseInRound = none) :
    k.chooseNext = { k with
      roundPosition := none, rediscovered := false, chosen := k.newRound.chooseInRound } := by
  unfold chooseNext
  rw [if_pos he, hc]
  rfl

/-- The choice of the model is the choice of R146. -/
theorem chooses_chooseNext : k.Chooses k.chooseNext := by
  refine ⟨chooseNext_off, fun he hempty => ?_, fun he huse => ?_⟩
  · have hno (v : StationLink) (hv : v.slots = k.slots) : v.chooseInRound = none :=
      v.chooseInRound_eq_none.2 fun c hc => by
        obtain ⟨i, hi⟩ := hc.exists_inUse
        exact hi (hv ▸ hempty i)
    rw [chooseNext_newRound he (hno k rfl), hno k.newRound rfl]
  · cases hc : k.chooseInRound with
    | some c => exact ⟨c, .inl ⟨(k.chooseInRound_eq_some c).1 hc, chooseNext_inRound he hc⟩⟩
    | none =>
      obtain ⟨c, hpick⟩ := k.newRound_picks huse
      rw [chooseNext_newRound he hc, (k.newRound.chooseInRound_eq_some c).2 hpick]
      exact ⟨c, .inr ⟨k.chooseInRound_eq_none.1 hc, hpick, rfl⟩⟩

/-- The poll of a link that stops is marked, and holds the next Poll frame back to the end of its window
(R143, R162). -/
theorem discardPoll_stopped : k.discardPoll .stopped = { k with
    poll := k.poll.map fun q => { q with discard := some .stopped }
    nextPollAt := (k.poll.map fun q => max k.nextPollAt q.windowEnd).getD k.nextPollAt } := by
  unfold discardPoll
  cases k with
  | mk enable holdStep holdExpiry offFade slots poll => cases poll <;> rfl

@[simp] theorem softReset_slots : k.softReset.slots = k.slots.mapIx fun _ x => x.softReset := by
  unfold softReset
  rw [chooseNext_slots]

/-- A soft reset chooses in a new round, from the slots it has taken OFFLINE (R162). -/
theorem chooses_softReset : Chooses { k with
    slots := k.softReset.slots
    poll := k.poll.map fun q => { q with discard := some .stopped }
    nextPollAt := (k.poll.map fun q => max k.nextPollAt q.windowEnd).getD k.nextPollAt
    roundPosition := none
    rediscovered := false
    pointer := 7 } k.softReset := by
  have hchoice := chooses_chooseNext { k.discardPoll .stopped with
    slots := k.slots.mapIx fun _ x => x.softReset
    roundPosition := none
    rediscovered := false
    pointer := 7 }
  rw [softReset_slots]
  rw [discardPoll_stopped] at hchoice
  unfold softReset
  rw [discardPoll_stopped]
  exact hchoice

end StationLink

/-! ## RESTART -/

theorem StationSlot.softReset_eq (x : StationSlot) : x.softReset =
    if x.state = .empty then x else ⟨.offline, x.station, none, .nothing, 0, none⟩ := rfl

/-- Settles O59. -/
theorem restartMakesSoftReset : Obligations.RestartMakesSoftReset := by
  intro s t h
  refine ⟨_, h.exec_ok (fun _ => rfl) rfl rfl (body := restart) rfl, rfl, fun n => Table.get_fill _ _,
    fun l => by cases l <;> rfl, fun i => ?_, rfl, s.link.chooses_softReset⟩
  change s.link.softReset.slots.get i = _
  rw [StationLink.softReset_slots, Table.get_mapIx, StationSlot.softReset_eq]
  rfl

end Sys2Proof.Machine
end

section
/-!
SUPPORT. The reads that clear what they report, byte by byte.
-/

namespace Sys2Proof.Machine

/-! ## Reads that clear what they report -/

/-! ### Byte images -/

theorem flagByte_eq (f : Bool) : flagByte f = byte f.toNat := by cases f <;> rfl

/-- Bit flags, bit 0 first (R184). -/
theorem flagBits_four (a b c d : Bool) :
    flagBits [a, b, c, d] = byte (a.toNat + 2 * b.toNat + 4 * c.toNat + 8 * d.toNat) := by
  cases a <;> cases b <;> cases c <;> cases d <;> rfl

theorem flagBits_three (a b c : Bool) :
    flagBits [a, b, c] = byte (a.toNat + 2 * b.toNat + 4 * c.toNat) := by
  cases a <;> cases b <;> cases c <;> rfl

/-- A set of loads in three bytes, loads 0 to 7 first (R184). -/
theorem loadSetBytes_eq (x : LoadSet) :
    loadSetBytes x = [byte x.toNat, byte (x.toNat / 256), byte (x.toNat / 65536)] := by
  simp only [loadSetBytes, byte, List.cons.injEq, and_true]
  refine ⟨?_, ?_, ?_⟩ <;> apply BitVec.eq_of_toNat_eq <;>
    simp [BitVec.extractLsb'_toNat, Nat.shiftRight_eq_div_pow]

theorem cells_map_eq {n : Nat} {α β : Type} (t : Table n α) (f : α → β) :
    t.cells.map f = (List.finRange n).map fun i => f (t.get i) := by
  obtain ⟨cells, rfl⟩ := t
  apply List.ext_getElem <;> simp [Table.get]

/-- The image of a record from its parts (Table 11-4). -/
theorem recordImage_of_parts (r : Record) {state cause : Byte} {configuration ramp : List Byte}
    {effective : Nat} (hstate : stateCode r.state = state)
    (hconfiguration : heldConfigBytes r.config = configuration) (heffective : r.effective = effective)
    (hramp : rampBytes r.ramp = ramp) (hcause : causeCode r.faultCause = cause) :
    recordImage r = [state] ++ configuration ++ word r.currentLevel ++ word r.targetLevel ++
      word effective ++ ramp ++ [byte r.stationLock.toNat] ++ word r.burstAccumulator ++
      [byte r.burstCycleOn.toNat, byte r.missCount, byte r.stuckCount, byte r.skipCount, cause,
        byte r.staged.isSome.toNat] := by
  subst hstate hconfiguration heffective hramp hcause
  simp [recordImage, flagByte_eq]

theorem lineOfCode_byte (l : Line) : lineOfCode (byteAt [byte (lineCode l)] 0) = some l := by
  cases l <;> rfl

theorem readLine_ok {p : List Byte} {s : State} {l : Line} (hl : lineOfCode (byteAt p 0) = some l) :
    readLine p s = .ok ({ s with
      trackers := s.trackers.set l { s.trackers.get l with noiseCount := 0 } },
      trackerImage (s.trackers.get l) (s.zc.get l)) := by
  simp [readLine, hl]

theorem readEvents_ok {p : List Byte} {s : State} {c : EventClass}
    (hc : classOfCode (byteAt p 0) = some c) :
    readEvents p s = .ok ({ s with attention := s.attention.emptied c },
      classCode c :: detailBytes s.attention c) := by
  simp [readEvents, hc]

/-- A response with the payload `q` written otherwise. -/
theorem State.answers_respond_of_eq {s w : State} (hw : w.port = s.port) {p q : List Byte} (hp : p = q) :
    s.Answers (w.respond .ok p) .ok q :=
  hp ▸ State.answers_respond_of_port hw .ok p

/-- Settles O48. -/
theorem clearingReadsReportThenClear : Obligations.ClearingReadsReportThenClear := by
  intro s t
  refine ⟨fun l h => ?_, fun n h => ?_, ?_⟩
  · refine ⟨_, h.exec_ok (fun _ => rfl) rfl rfl (readLine_ok (lineOfCode_byte l)),
      State.answers_respond_of_eq rfl ?_, rfl⟩
    dsimp only [State.at]
    generalize s.trackers.get l = x
    obtain ⟨lock, noise, counter⟩ := x
    cases lock <;> rfl
  · refine ⟨_, h.exec_ok (fun _ => rfl) rfl rfl (readLoad_ok (indexAt_byte n (by decide) [])),
      State.load_modifyLoad_self (s.at t) n _, fun m hm => State.load_modifyLoad_ne (s.at t) hm _,
      State.answers_respond_of_eq rfl ?_, rfl⟩
    rw [State.at_load]
    generalize s.load n = r
    refine recordImage_of_parts r ?_ ?_ ?_ ?_ ?_
    · cases r.state <;> rfl
    · cases r.config with
      | none => rfl
      | some c =>
        obtain ⟨line, mode, minLevel, maxLevel, width, count, sense, limit, zones⟩ := c
        cases line <;> cases mode <;> cases sense <;> rfl
    · unfold Record.effective
      cases r.config <;> rfl
    · cases r.ramp with
      | none => rfl
      | some x =>
        obtain ⟨remaining, origin⟩ := x
        cases origin <;> rfl
    · cases r.faultCause with
      | none => rfl
      | some x => cases x <;> rfl
  · intro a lineByte slotByte setBytes c detail left hmem h
    have hanswer {k : EventClass} (hk : classOfCode c.toNat = some k) (hcode : classCode k = c)
        (hdetail : detailBytes a k = detail) (hleft : a.emptied k = left) :
        ∃ u, exec (.readEvents t) s = .next u ∧ s.Answers u .ok (c :: detail) ∧
          u = { s with now := max s.now t, attention := left, port := u.port } := by
      subst hcode hdetail hleft
      exact ⟨_, h.exec_ok (fun _ => rfl) rfl rfl (readEvents_ok hk), rfl, rfl⟩
    simp only [List.mem_cons, List.not_mem_nil, or_false, Prod.mk.injEq] at hmem
    rcases hmem with hmem | hmem | hmem | hmem | hmem | hmem <;> obtain ⟨rfl, rfl, rfl⟩ := hmem
    · exact hanswer (k := .safety) rfl rfl (by simp [detailBytes, flagBits_four]) rfl
    · exact hanswer (k := .line) rfl rfl (by simp [detailBytes, flagBits_three, lineByte]) rfl
    · exact hanswer (k := .fault) rfl rfl (loadSetBytes_eq a.fault) rfl
    · exact hanswer (k := .skip) rfl rfl (loadSetBytes_eq a.skip) rfl
    · refine hanswer (k := .commit) rfl rfl ?_ rfl
      unfold detailBytes
      cases a.commit with
      | none => rfl
      | some d => exact congrArg (fun b => [1, d.seq, b]) (flagByte_eq d.moreThanOne)
    · refine hanswer (k := .station) rfl rfl ?_ rfl
      simp only [detailBytes, cells_map_eq, flagBits_four, slotByte]

end Sys2Proof.Machine
end

section
/-!
SUPPORT. What a step keeps of the trackers (`State.TrackersOk`): the commands that leave the lines alone,
and what the others do to one tracker.
-/

namespace Sys2Proof.Machine

/-! ## One tracker -/

/-- What `State.TrackersOk` asks of the tracker of a line with this enable (R27, Table 2-1). -/
structure Tracker.Ok (x : Tracker) (enabled : Bool) : Prop where
  lock : x.lock.Ok
  noise : x.noiseCount ≤ Config.saturation
  off : x.lock = .off ↔ enabled = false

namespace Tracker

variable {x : Tracker} {cfg : LineConfig} {enabled : Bool}

/-- A tracker that is not OFF may take any other lock state in range, whatever its counter. -/
theorem Ok.relock (h : x.Ok enabled) (hx : x.lock ≠ .off) {lock : Lock} (hok : lock.Ok)
    (hne : lock ≠ .off) (counter : BitVec 16) :
    Ok { x with lock := lock, counter := counter } enabled :=
  ⟨hok, h.noise, ⟨fun he => absurd he hne, fun he => absurd (h.off.2 he) hx⟩⟩

theorem Ok.noise_saturates (h : x.Ok enabled) : x.noise.tracker.Ok enabled :=
  ⟨h.lock, Nat.min_le_left _ _, h.off⟩

theorem Ok.clearNoise (h : x.Ok enabled) : Ok { x with noiseCount := 0 } enabled :=
  ⟨h.lock, Nat.zero_le _, h.off⟩

theorem ok_reset (enabled : Bool) : (reset enabled).Ok enabled := by
  cases enabled <;> constructor <;> simp [reset, Lock.Ok]

theorem goodSpacing_iff {run : List Nat} {d : Nat} : goodSpacing run d = true ↔ GoodSpacing run d := by
  unfold goodSpacing GoodSpacing
  cases run.getLast? <;> simp [and_assoc]

theorem smoothed_bounds (p d : Nat) :
    Config.minHalfPeriod ≤ smoothed p d ∧ smoothed p d ≤ Config.maxHalfPeriod := by
  unfold smoothed
  exact ⟨le_max_left _ _, max_le (by decide) (min_le_left _ _)⟩

/-- A track that takes its guards from the line configuration (R31) is in range where its P is. -/
theorem track_ok (hcfg : cfg.Ok) {p : Nat} (hp : Config.minHalfPeriod ≤ p ∧ p ≤ Config.maxHalfPeriod)
    (b : Nat) (polarity : Polarity) : Track.Ok ⟨p, b, polarity, cfg.frontGuard, cfg.backGuard⟩ := by
  obtain ⟨hfront, hfront', hback, hback', hsum, -, -⟩ := hcfg
  exact ⟨hp.1, hp.2, hfront, hfront', hback, hback', hsum⟩

/-- The mean of three spacings in the band is in the band (R34). -/
theorem mean_bounds {run : List Nat} (hlen : run.length = Config.spacingsToLock)
    (h : ∀ d ∈ run, Config.minHalfPeriod ≤ d ∧ d ≤ Config.maxHalfPeriod) :
    Config.minHalfPeriod ≤ run.sum / 3 ∧ run.sum / 3 ≤ Config.maxHalfPeriod := by
  obtain ⟨a, b, c, rfl⟩ := List.length_eq_three.1 hlen
  simp only [List.mem_cons, List.not_mem_nil, or_false, forall_eq_or_imp, forall_eq,
    List.sum_cons, List.sum_nil] at h ⊢
  omega

theorem Ok.acquire (h : x.Ok enabled) (hcfg : cfg.Ok) {last : Nat} {run : List Nat}
    (hx : x.lock = .acquiring last run) (t : Nat) (level : Bool) :
    (x.acquire cfg last run t level).tracker.Ok enabled := by
  have hoff : x.lock ≠ .off := by simp [hx]
  obtain ⟨hlen, hrun⟩ : (Lock.acquiring last run).Ok := hx ▸ h.lock
  unfold Tracker.acquire
  split
  · rename_i hgood
    obtain ⟨hmin, hmax, -⟩ := goodSpacing_iff.1 hgood
    have hrun' : ∀ d ∈ run ++ [t - last], Config.minHalfPeriod ≤ d ∧ d ≤ Config.maxHalfPeriod := by
      intro d hd
      rcases List.mem_append.1 hd with hd | hd
      · exact hrun d hd
      · obtain rfl := List.mem_singleton.1 hd
        exact ⟨hmin, hmax⟩
    dsimp only
    split
    · rename_i hthree
      exact h.relock hoff (lock := .locked _) (track_ok hcfg (mean_bounds hthree hrun') _ _) (by simp) 0
    · rename_i hthree
      refine h.relock hoff (lock := .acquiring t _) ⟨?_, hrun'⟩ (by simp) x.counter
      simp only [List.length_append, List.length_singleton] at hthree ⊢
      omega
  · exact h.relock hoff (lock := .acquiring t []) ⟨by simp, by simp⟩ (by simp) x.counter

theorem Ok.declare (h : x.Ok enabled) (hcfg : cfg.Ok) (hx : x.lock ≠ .off) {p : Nat}
    (hp : Config.minHalfPeriod ≤ p ∧ p ≤ Config.maxHalfPeriod) (t : Nat) (level : Bool) :
    (x.declare cfg p t level).tracker.Ok enabled :=
  h.relock hx (lock := .locked _) (track_ok hcfg hp _ _) (by simp) _

theorem Ok.edge (h : x.Ok enabled) (hcfg : cfg.Ok) (t : Nat) (level : Bool) :
    (x.edge cfg t level).tracker.Ok enabled := by
  have hlock := h.lock
  unfold Tracker.edge
  cases hx : x.lock with
  | off => exact h
  | absent =>
    exact h.relock (by simp [hx]) (lock := .acquiring t []) ⟨by simp, by simp⟩ (by simp) x.counter
  | acquiring last run => exact h.acquire hcfg hx t level
  | locked k =>
    dsimp only
    split
    · exact h.noise_saturates
    · split
      · exact h.declare hcfg (by simp [hx]) (smoothed_bounds _ _) t level
      · exact h
  | holdover k n =>
    obtain ⟨⟨hmin, hmax, -⟩, -⟩ : (Lock.holdover k n).Ok := hx ▸ hlock
    dsimp only
    split
    · exact h.noise_saturates
    · split
      · exact h.declare hcfg (by simp [hx]) ⟨hmin, hmax⟩ t level
      · exact h

theorem Ok.timeout (h : x.Ok enabled) (t : Nat) : (x.timeout t).Ok enabled := by
  unfold Tracker.timeout
  cases hx : x.lock with
  | acquiring last run =>
    dsimp only
    split
    · exact h.relock (by simp [hx]) (lock := .absent) trivial (by simp) x.counter
    · exact h
  | _ => exact h

theorem Ok.synthesize (h : x.Ok enabled) (hcfg : cfg.Ok) (hx : x.lock ≠ .off) {k : Track} (hk : k.Ok)
    {n : Nat} (hn : 1 ≤ n ∧ n ≤ Config.maxSynthetic) (event : Option LineEvent) :
    (x.synthesize cfg k n event).tracker.Ok enabled := by
  obtain ⟨hmin, hmax, -⟩ := hk
  exact h.relock hx (lock := .holdover _ n) ⟨track_ok hcfg ⟨hmin, hmax⟩ _ _, hn⟩ (by simp) _

theorem Ok.windowClose (h : x.Ok enabled) (hcfg : cfg.Ok) (t : Nat) :
    (x.windowClose cfg t).tracker.Ok enabled := by
  have hlock := h.lock
  unfold Tracker.windowClose
  cases hx : x.lock with
  | locked k =>
    have hk : (Lock.locked k).Ok := hx ▸ hlock
    dsimp only
    split
    · exact h.synthesize hcfg (by simp [hx]) hk ⟨Nat.le_refl 1, by decide⟩ _
    · exact h
  | holdover k n =>
    obtain ⟨hk, -, -⟩ : (Lock.holdover k n).Ok := hx ▸ hlock
    dsimp only
    split
    · split
      · rename_i hn
        exact h.synthesize hcfg (by simp [hx]) hk ⟨Nat.le_add_left 1 n, hn⟩ _
      · exact h.relock (by simp [hx]) (lock := .absent) trivial (by simp) x.counter
    · exact h
  | _ => exact h

/-- CONFIGURE_LINES on one tracker: kept where the enable does not change, and otherwise ABSENT or OFF by
the new enable (R30). -/
theorem configure_tracker (x : Tracker) (before after : Bool) : (x.configure before after).tracker =
    if before = after then x else { x with lock := if after then .absent else .off } := by
  cases before <;> cases after <;> rfl

theorem Ok.configure {before after : Bool} (h : x.Ok before) :
    (x.configure before after).tracker.Ok after := by
  rw [configure_tracker]
  split
  · rename_i he
    exact he ▸ h
  · refine ⟨?_, h.noise, ?_⟩ <;> cases after <;> simp [Lock.Ok]

end Tracker

namespace State

variable {s u v : State}

theorem trackersOk_iff : s.TrackersOk ↔
    s.lineConfig.Ok ∧ ∀ l, (s.trackers.get l).Ok (s.lineConfig.enable.get l) :=
  ⟨fun h => ⟨h.1, fun l => ⟨(h.2 l).1, (h.2 l).2.1, (h.2 l).2.2⟩⟩,
    fun h => ⟨h.1, fun l => ⟨(h.2 l).lock, (h.2 l).noise, (h.2 l).off⟩⟩⟩

/-- One tracker changes, under the same configuration. -/
theorem TrackersOk.set (h : s.TrackersOk) {l : Line} {x : Tracker}
    (hx : x.Ok (s.lineConfig.enable.get l)) (ht : u.trackers = s.trackers.set l x)
    (hc : u.lineConfig = s.lineConfig) : u.TrackersOk := by
  rw [trackersOk_iff] at h ⊢
  rw [ht, hc]
  refine ⟨h.1, fun m => ?_⟩
  by_cases hm : m = l
  · subst hm
    rwa [PerLine.get_set_self]
  · rw [PerLine.get_set_ne _ hm]
    exact h.2 m

/-! ## Moves -/

@[simp] theorem announce_lineConfig (b : Boundary) : (s.announce b).lineConfig = s.lineConfig := by
  simp [announce_eq, dropList]

@[simp] theorem loseLine_lineConfig (l : Line) : (s.loseLine l).lineConfig = s.lineConfig := by
  simp [loseLine]

@[simp] theorem moveTracker_lineConfig (l : Line) (m : Move) :
    (s.moveTracker l m).lineConfig = s.lineConfig := by
  unfold moveTracker lineEvent
  cases m.event with
  | none => cases m.boundary <;> simp
  | some e => cases e <;> cases m.boundary <;> simp

theorem TrackersOk.moveTracker (h : s.TrackersOk) {l : Line} {m : Move}
    (hm : m.tracker.Ok (s.lineConfig.enable.get l)) : (s.moveTracker l m).TrackersOk :=
  h.set hm (moveTracker_trackers s l m) (moveTracker_lineConfig l m)

/-! ## CONFIGURE_LINES -/

/-- The part under the line configuration `c`, its trackers moved one after another (R29, R30). -/
def configured (s : State) (c : LineConfig) : State :=
  let before := s.lineConfig.enable
  ((({ s with lineConfig := c } : State).configureTracker before c.enable .a).configureTracker
    before c.enable .b).configureTracker before c.enable .c

theorem configureLines_ok {p : List Byte} {c : LineConfig} (h : lineConfigAt p = some c) (s : State) :
    configureLines p s = .ok (s.configured c, []) := by
  simp only [configureLines, h]
  rfl

theorem configured_of_ok {p payload : List Byte} (h : configureLines p s = .ok (v, payload)) :
    ∃ c, lineConfigAt p = some c ∧ v = s.configured c := by
  cases hc : lineConfigAt p with
  | none => simp [configureLines, hc] at h
  | some c =>
    rw [configureLines_ok hc] at h
    obtain ⟨rfl, -⟩ := Prod.mk.inj (Except.ok.inj h)
    exact ⟨c, rfl, rfl⟩

@[simp] theorem configured_lineConfig (c : LineConfig) : (s.configured c).lineConfig = c := by
  simp [configured, configureTracker]

/-- Each tracker moves by its own enable, whatever the other lines do. -/
theorem configured_trackers (s : State) (c : LineConfig) (l : Line) : (s.configured c).trackers.get l =
    ((s.trackers.get l).configure (s.lineConfig.enable.get l) (c.enable.get l)).tracker := by
  cases l <;> simp [configured, configureTracker]

theorem lineConfigAt_ok {p : List Byte} {c : LineConfig} (h : lineConfigAt p = some c) : c.Ok := by
  simp only [lineConfigAt, Option.ite_none_right_eq_some, Option.some.injEq] at h
  obtain ⟨⟨-, hfront, hfront', hback, hback', hnominal, hnominal', hsum⟩, rfl⟩ := h
  exact ⟨hfront, hfront', hback, hback', hsum, hnominal, hnominal'⟩

theorem TrackersOk.configured (h : s.TrackersOk) {c : LineConfig} (hc : c.Ok) :
    (s.configured c).TrackersOk := by
  rw [trackersOk_iff] at h ⊢
  rw [configured_lineConfig]
  refine ⟨hc, fun l => ?_⟩
  rw [configured_trackers]
  exact (h.2 l).configure

/-! ## Resets -/

theorem trackersOk_of_reset (ht : u.trackers = .fill (.reset true)) (hc : u.lineConfig = .default) :
    u.TrackersOk := by
  rw [trackersOk_iff, ht, hc]
  refine ⟨by simp only [LineConfig.Ok]; decide, fun l => ?_⟩
  simp only [LineConfig.default, PerLine.get_fill]
  exact Tracker.ok_reset true

theorem TrackersOk.softReset (h : s.TrackersOk) : s.softReset.TrackersOk := by
  rw [trackersOk_iff] at h ⊢
  refine ⟨h.1, fun l => ?_⟩
  cases l <;> exact Tracker.ok_reset _

/-! ## The operations that leave the lines alone -/

/-- From `s` to `u` the trackers and the line configuration are kept. -/
structure SameLines (s u : State) : Prop where
  trackers : u.trackers = s.trackers
  lineConfig : u.lineConfig = s.lineConfig

theorem SameLines.refl (s : State) : s.SameLines s := ⟨rfl, rfl⟩

theorem SameLines.trans (h : s.SameLines u) (h' : u.SameLines v) : s.SameLines v :=
  ⟨h'.trackers.trans h.trackers, h'.lineConfig.trans h.lineConfig⟩

theorem SameLines.trackersOk (h : s.SameLines u) (hs : s.TrackersOk) : u.TrackersOk := by
  unfold TrackersOk
  rwa [h.trackers, h.lineConfig]

theorem sameLines_applyMembers (p : LoadIx → Bool) : s.SameLines (s.applyMembers p) :=
  ⟨applyMembers_trackers s p, applyMembers_lineConfig s p⟩

theorem sameLines_stopHoldOf (i : SlotIx) : s.SameLines (s.stopHoldOf i) := by
  unfold stopHoldOf
  split <;> exact ⟨rfl, rfl⟩

theorem sameLines_judgeCheck (n : LoadIx) (conducting : Bool) :
    s.SameLines (s.judgeCheck n conducting) := by
  unfold judgeCheck
  dsimp only
  split
  · split
    · exact ⟨rfl, rfl⟩
    · split <;> exact ⟨rfl, rfl⟩
  · exact .refl s

theorem sameLines_continueTrain (x : SlotPulse) : s.SameLines (s.continueTrain x) := by
  unfold continueTrain handOver
  dsimp only
  split <;> split <;> exact ⟨rfl, rfl⟩

theorem sameLines_switchLink (before after : Bool) : s.SameLines (s.switchLink before after) := by
  unfold switchLink
  dsimp only
  split
  · exact ⟨rfl, rfl⟩
  · split <;> exact ⟨rfl, rfl⟩

/-! ### Polls and requests -/

theorem sameLines_failPoll (i : SlotIx) : s.SameLines (s.failPoll i) := by
  unfold failPoll
  dsimp only
  split
  · exact .refl s
  · exact .refl s
  · split
    · exact ⟨rfl, rfl⟩
    · exact (sameLines_stopHoldOf i).trans ⟨rfl, rfl⟩

theorem sameLines_answer (i : SlotIx) : s.SameLines (s.answer i) := by
  unfold answer
  split <;> exact ⟨rfl, rfl⟩

theorem sameLines_judge (i : SlotIx) (seq : Bool) (refusal : Option Reason) {carryOut : State → State}
    (h : ∀ v : State, v.SameLines (carryOut v)) : s.SameLines (s.judge i seq refusal carryOut) := by
  unfold judge
  split
  · exact .refl s
  · split
    · exact ⟨rfl, rfl⟩
    · exact SameLines.trans (u := s.modifySlot i _) ⟨rfl, rfl⟩ (h _)

theorem sameLines_stationRecall (i : SlotIx) (n : SceneIx) : s.SameLines (s.stationRecall i n) := by
  unfold stationRecall
  split <;> exact ⟨rfl, rfl⟩

theorem sameLines_startHold (i : SlotIx) (z : Zone) (d : Direction) :
    s.SameLines (s.startHold i z d) := by
  unfold startHold
  dsimp only
  split
  · exact ⟨rfl, rfl⟩
  · exact (sameLines_stopHoldOf i).trans ⟨rfl, rfl⟩

theorem sameLines_endHold (i : SlotIx) (z : Zone) : s.SameLines (s.endHold i z) := by
  unfold endHold
  split
  · exact sameLines_stopHoldOf i
  · exact .refl s

/-- A Reply row whose requests leave the lines alone. -/
def HandlesSameLines (handle : Request → Option (SlotIx → State → State)) : Prop :=
  ∀ r f, handle r = some f → ∀ i v, SameLines v (f i v)

theorem sameLines_takeReply (frame : List Byte) {handle : Request → Option (SlotIx → State → State)}
    (h : HandlesSameLines handle) : s.SameLines (s.takeReply frame handle) := by
  unfold takeReply
  split
  · exact .refl s
  · split
    · exact .refl s
    · rename_i q _ _ f hf
      obtain ⟨r, -, hr⟩ := Option.bind_eq_some_iff.1 hf
      have hend : s.SameLines { s with link := s.link.endPoll s.now } := ⟨rfl, rfl⟩
      dsimp only
      split
      · exact hend.trans ⟨rfl, rfl⟩
      · exact ((hend.trans (sameLines_answer q.slot)).trans (h r f hr q.slot _)).trans ⟨rfl, rfl⟩

theorem handlesSameLines_idle : HandlesSameLines Request.takeIdle
  | .idle, _, rfl, _, _ => ⟨rfl, rfl⟩

theorem handlesSameLines_recall : HandlesSameLines Request.takeRecall
  | .recall n seq, _, rfl, i, _ => sameLines_judge i seq _ fun _ => sameLines_stationRecall i n

theorem handlesSameLines_raise : HandlesSameLines Request.takeRaise
  | .raiseStart z seq, _, rfl, i, _ => sameLines_judge i seq _ fun _ => sameLines_startHold i z .raise

theorem handlesSameLines_lower : HandlesSameLines Request.takeLower
  | .lowerStart z seq, _, rfl, i, _ => sameLines_judge i seq _ fun _ => sameLines_startHold i z .lower

theorem handlesSameLines_holdStop : HandlesSameLines Request.takeHoldStop
  | .holdStop z seq, _, rfl, i, _ => sameLines_judge i seq _ fun _ => sameLines_endHold i z

theorem handlesSameLines_off : HandlesSameLines Request.takeOff
  | .off _ seq, _, rfl, i, _ => sameLines_judge i seq _ fun _ => ⟨rfl, rfl⟩

/-! ### Commands -/

/-- What a command body carries out leaves the lines alone; a refusal always does (R167). -/
def LeavesLines (s : State) (r : CommandResult) : Prop :=
  ∀ v payload, r = .ok (v, payload) → s.SameLines v

theorem LeavesLines.bind {α : Type} {x : Except Status α} {f : α → CommandResult}
    (h : ∀ a, s.LeavesLines (f a)) : s.LeavesLines (x >>= f) := fun v payload hr => by
  obtain ⟨a, -, ha⟩ := bind_eq_ok.1 hr
  exact h a v payload ha

theorem LeavesLines.ok (h : s.SameLines v) {payload : List Byte} : s.LeavesLines (.ok (v, payload)) := by
  intro w q hw
  obtain ⟨rfl, -⟩ := Prod.mk.inj (Except.ok.inj hw)
  exact h

/-- A body whose result differs from `s` in other fields alone. -/
theorem LeavesLines.frame {r : State × List Byte} (ht : r.1.trackers = s.trackers)
    (hc : r.1.lineConfig = s.lineConfig) : s.LeavesLines (.ok r) := .ok ⟨ht, hc⟩

theorem LeavesLines.error (status : Status) : s.LeavesLines (.error status) := fun _ _ h => nomatch h

theorem leavesLines_disableLoad (p : List Byte) : s.LeavesLines (disableLoad p s) :=
  .bind fun n => .bind fun _ => .ok <| by
    have hcut : s.SameLines ((s.modifyLoad n fun r =>
      { r.leaveActive .defined with missCount := 0 }).cutLoads fun m => m == n) := ⟨rfl, rfl⟩
    split
    · exact hcut.trans (sameLines_applyMembers _)
    · exact hcut

theorem leavesLines_commit (p : List Byte) : s.LeavesLines (Machine.commit p s) :=
  .bind fun _ => .ok <| by
    have hset : s.SameLines { s with commit := ⟨.pending, s.stagedMembers, s.commit.seq + 1⟩ } :=
      ⟨rfl, rfl⟩
    exact hset.trans (sameLines_applyMembers _)

theorem leavesLines_enrollStation (p : List Byte) : s.LeavesLines (enrollStation p s) := by
  refine .bind fun _ => .bind fun _ => ?_
  split
  · exact .error .noSpace
  · exact .ok (by exact ⟨rfl, rfl⟩)

theorem leavesLines_removeStation (p : List Byte) : s.LeavesLines (removeStation p s) :=
  .bind fun i => .bind fun _ => .ok (by exact (sameLines_stopHoldOf i).trans ⟨rfl, rfl⟩)

theorem leavesLines_configureLink (p : List Byte) : s.LeavesLines (configureLink p s) :=
  .bind fun c => .ok <| by
    have hset : s.SameLines { s with link := { s.link with
      enable := c.enable, holdStep := c.holdStep, holdExpiry := c.holdExpiry, offFade := c.offFade } } :=
      ⟨rfl, rfl⟩
    exact hset.trans (sameLines_switchLink _ _)

/-! ## The step -/

/-- A command that is taken does what it does at `t`, or, with RST low, moves the timebase alone. -/
theorem takes_cases {t : Nat} {f : State → State} (h : s.takes t f = .next u) :
    u = s.at t ∨ u = f (s.at t) := by
  cases hr : s.rstLow with
  | true => exact .inl (Host.Outcome.next.inj ((takes_low hr t f).symm.trans h)).symm
  | false => exact .inr (Host.Outcome.next.inj ((takes_high hr t f).symm.trans h)).symm

/-- An execution finds no frame of its code, or refuses it, or carries its command out (R166, R167). -/
theorem execute_cases (s : State) (code : Byte) (body : List Byte → State → CommandResult) :
    s.execute code body = s ∨ (∃ status, s.execute code body = s.respond status []) ∨
    ∃ p v payload, body p s = .ok (v, payload) ∧ s.execute code body = v.respond .ok payload := by
  unfold execute
  split
  · exact .inl rfl
  · rename_i f _
    split
    · split
      · cases hb : body f.payload s with
        | error status => exact .inr (.inl ⟨status, rfl⟩)
        | ok r => exact .inr (.inr ⟨f.payload, r.1, r.2, hb, rfl⟩)
      · exact .inr (.inl ⟨.badFrame, rfl⟩)
    · exact .inl rfl

theorem sameLines_takes {t : Nat} {f : State → State} (h : s.takes t f = .next u)
    (hf : ∀ v : State, v.SameLines (f v)) : s.SameLines u := by
  have hat : s.SameLines (s.at t) := ⟨rfl, rfl⟩
  rcases takes_cases h with rfl | rfl
  · exact hat
  · exact hat.trans (hf _)

/-- A command that executes a frame leaves the lines alone where its body does. -/
theorem sameLines_runs {t : Nat} {c : Instr} {code : Byte} (body : List Byte → State → CommandResult)
    (hc : Runs t c code body) (h : exec c s = .next u)
    (hb : ∀ (p : List Byte) (v : State), v.LeavesLines (body p v)) : s.SameLines u := by
  refine sameLines_takes (hc s ▸ h) fun v => ?_
  rcases v.execute_cases code body with hv | ⟨status, hv⟩ | ⟨p, w, payload, hw, hv⟩
  · rw [hv]
    exact .refl v
  · rw [hv]
    exact ⟨rfl, rfl⟩
  · rw [hv]
    exact (hb p v w payload hw).trans ⟨rfl, rfl⟩

theorem TrackersOk.takes (hs : s.TrackersOk) {t : Nat} {f : State → State} (h : s.takes t f = .next u)
    (hf : ∀ v : State, v.TrackersOk → (f v).TrackersOk) : u.TrackersOk := by
  rcases takes_cases h with rfl | rfl
  · exact hs
  · exact hf _ hs

theorem TrackersOk.runs (hs : s.TrackersOk) {t : Nat} {c : Instr} {code : Byte}
    {body : List Byte → State → CommandResult} (hc : Runs t c code body) (h : exec c s = .next u)
    (hb : ∀ p v w payload, body p v = .ok (w, payload) → State.TrackersOk v → w.TrackersOk) :
    u.TrackersOk := by
  refine hs.takes (hc s ▸ h) fun v hv => ?_
  rcases v.execute_cases code body with hu | ⟨status, hu⟩ | ⟨p, w, payload, hw, hu⟩
  · rwa [hu]
  · rw [hu]
    exact hv
  · rw [hu]
    exact hb p v w payload hw hv

end State

/-- The commands that may move a tracker or change the line configuration. -/
def movesLines : Instr → Bool
  | .powerOnReset => true
  | .pinReset _ => true
  | .zeroCrossEdge _ _ _ => true
  | .acquisitionTimeout _ _ => true
  | .acceptanceWindowClose _ _ => true
  | .configureLines _ => true
  | .readLine _ => true
  | .restart _ => true
  | _ => false

namespace State
variable {s u v : State}

/-! Events, one by one. -/

theorem sameLines_execPinResetEnd {t : Nat} (h : execPinResetEnd t s = .next u) :
    s.SameLines u := by
  obtain rfl := Host.Outcome.next.inj h
  split <;> exact ⟨rfl, rfl⟩

theorem sameLines_execAlloffAssertion {t : Nat} (h : execAlloffAssertion t s = .next u) :
    s.SameLines u := by
  simp only [execAlloffAssertion] at h
  split at h <;> obtain rfl := Host.Outcome.next.inj h <;> exact ⟨rfl, rfl⟩

theorem sameLines_execAlloffRelease {t : Nat} (h : execAlloffRelease t s = .next u) :
    s.SameLines u := by
  simp only [execAlloffRelease] at h
  split at h <;> obtain rfl := Host.Outcome.next.inj h <;> exact ⟨rfl, rfl⟩

theorem sameLines_execPulseEnd {t : Nat} {n : LoadIx} (h : execPulseEnd t n s = .next u) :
    s.SameLines u := by
  refine sameLines_takes h fun v => ?_
  split
  · exact .refl v
  · refine SameLines.trans ?_ (sameLines_continueTrain _)
    exact ⟨rfl, rfl⟩

theorem sameLines_execLatestStartPassed {t : Nat} {n : LoadIx} (h : execLatestStartPassed t n s = .next u) :
    s.SameLines u := by
  refine sameLines_takes h fun v => ?_
  split <;> exact ⟨rfl, rfl⟩

theorem sameLines_execHeldDriveStart {t : Nat} {n : LoadIx} (h : execHeldDriveStart t n s = .next u) :
    s.SameLines u := by
  refine sameLines_takes h fun v => ?_
  split <;> exact ⟨rfl, rfl⟩

theorem sameLines_execHeldDriveEnd {t : Nat} {n : LoadIx} {level : Bool}
    (h : execHeldDriveEnd t n level s = .next u) : s.SameLines u := by
  refine sameLines_takes h fun v => ?_
  split
  · exact .refl v
  · have hsense : v.SameLines (v.sampleSense n level) := ⟨rfl, rfl⟩
    exact (hsense.trans (sameLines_judgeCheck n level)).trans ⟨rfl, rfl⟩

theorem sameLines_execPostFiringCheck {t : Nat} {n : LoadIx} {level : Bool}
    (h : execPostFiringCheck t n level s = .next u) : s.SameLines u := by
  refine sameLines_takes h fun v => ?_
  split
  · exact .refl v
  · refine SameLines.trans ?_ (sameLines_judgeCheck n level)
    exact ⟨rfl, rfl⟩

theorem sameLines_execQuietSample {t : Nat} {l : Line} {levels : LoadSet}
    (h : execQuietSample t l levels s = .next u) : s.SameLines u := by
  refine sameLines_takes h fun v => ?_
  split
  · exact .refl v
  · split <;> exact ⟨rfl, rfl⟩

theorem sameLines_execHoldExpiry {t : Nat} {i : SlotIx} (h : execHoldExpiry t i s = .next u) :
    s.SameLines u := by
  refine sameLines_takes h fun v => ?_
  split
  · exact .refl v
  · split
    · exact (sameLines_stopHoldOf i).trans ⟨rfl, rfl⟩
    · exact .refl v

theorem sameLines_execPoll {t : Nat} (h : execPoll t s = .next u) :
    s.SameLines u := by
  refine sameLines_takes h fun v => ?_
  dsimp only
  split
  · split
    · exact .refl v
    · split <;> exact ⟨rfl, rfl⟩
  · exact .refl v

theorem sameLines_execReplyWindowClose {t : Nat} (h : execReplyWindowClose t s = .next u) :
    s.SameLines u := by
  refine sameLines_takes h fun v => ?_
  split
  · exact .refl v
  · split
    · have hend : v.SameLines { v with link := v.link.endPoll v.now } := ⟨rfl, rfl⟩
      dsimp only
      split
      · exact hend.trans ⟨rfl, rfl⟩
      · exact (hend.trans (sameLines_failPoll _)).trans ⟨rfl, rfl⟩
    · exact .refl v

theorem sameLines_execReplyNotValid {t : Nat} {frame : List Byte}
    (h : execReplyNotValid t frame s = .next u) : s.SameLines u := by
  refine sameLines_takes h fun v => ?_
  split
  · exact .refl v
  · split
    · split <;> exact ⟨rfl, rfl⟩
    · exact .refl v

theorem sameLines_execCommandWrite {t : Nat} {csFell : Nat} {frame : List Byte}
    (h : execCommandWrite t csFell frame s = .next u) : s.SameLines u := by
  refine sameLines_takes h fun v => ?_
  dsimp only
  split <;> exact ⟨rfl, rfl⟩

theorem sameLines_execResponseRead {t : Nat} {csFell : Nat} {clocked : Nat}
    (h : execResponseRead t csFell clocked s = .next u) : s.SameLines u := by
  refine sameLines_takes h fun v => ?_
  split <;> exact ⟨rfl, rfl⟩

theorem sameLines_execTransactionIgnored {t : Nat} {csFell : Nat} {bytes : List Byte}
    (h : execTransactionIgnored t csFell bytes s = .next u) : s.SameLines u := by
  refine sameLines_takes h fun v => ?_
  dsimp only
  split <;> exact ⟨rfl, rfl⟩

theorem sameLines_execUnknownCommand {t : Nat} (h : execUnknownCommand t s = .next u) :
    s.SameLines u := by
  refine sameLines_takes h fun v => ?_
  split
  · exact .refl v
  · split <;> exact ⟨rfl, rfl⟩

theorem sameLines_execFrameNotIntact {t : Nat} (h : execFrameNotIntact t s = .next u) :
    s.SameLines u := by
  refine sameLines_takes h fun v => ?_
  split
  · split <;> exact ⟨rfl, rfl⟩
  · exact .refl v
  · exact .refl v

/-- Every other command leaves the trackers and the line configuration as they were. -/
theorem sameLines_exec {c : Instr} (hc : movesLines c = false) (h : exec c s = .next u) :
    s.SameLines u := by
  cases c with
  | powerOnReset => cases hc
  | pinReset t => cases hc
  | zeroCrossEdge t line level => cases hc
  | acquisitionTimeout t line => cases hc
  | acceptanceWindowClose t line => cases hc
  | configureLines t => cases hc
  | readLine t => cases hc
  | restart t => cases hc
  | pinResetEnd t => exact sameLines_execPinResetEnd h
  | alloffAssertion t => exact sameLines_execAlloffAssertion h
  | alloffRelease t => exact sameLines_execAlloffRelease h
  | pulseDue t => exact sameLines_takes (show execPulseDue t s = _ from h) fun _ => ⟨rfl, rfl⟩
  | pulseEnd t load => exact sameLines_execPulseEnd h
  | latestStartPassed t load => exact sameLines_execLatestStartPassed h
  | heldDriveStart t load => exact sameLines_execHeldDriveStart h
  | heldDriveEnd t load level => exact sameLines_execHeldDriveEnd h
  | postFiringCheck t load level => exact sameLines_execPostFiringCheck h
  | quietSample t line levels => exact sameLines_execQuietSample h
  | holdExpiry t slot => exact sameLines_execHoldExpiry h
  | poll t => exact sameLines_execPoll h
  | replyWindowClose t => exact sameLines_execReplyWindowClose h
  | idle t frame =>
    exact sameLines_takes (show execIdle t frame s = _ from h) fun _ =>
      sameLines_takeReply frame handlesSameLines_idle
  | raiseStart t frame =>
    exact sameLines_takes (show execRaiseStart t frame s = _ from h) fun _ =>
      sameLines_takeReply frame handlesSameLines_raise
  | lowerStart t frame =>
    exact sameLines_takes (show execLowerStart t frame s = _ from h) fun _ =>
      sameLines_takeReply frame handlesSameLines_lower
  | holdStop t frame =>
    exact sameLines_takes (show execHoldStop t frame s = _ from h) fun _ =>
      sameLines_takeReply frame handlesSameLines_holdStop
  | off t frame =>
    exact sameLines_takes (show execOff t frame s = _ from h) fun _ =>
      sameLines_takeReply frame handlesSameLines_off
  | replyNotValid t frame => exact sameLines_execReplyNotValid h
  | commandWrite t csFell frame => exact sameLines_execCommandWrite h
  | responseRead t csFell clocked => exact sameLines_execResponseRead h
  | transactionIgnored t csFell bytes => exact sameLines_execTransactionIgnored h
  | unknownCommand t => exact sameLines_execUnknownCommand h
  | frameNotIntact t => exact sameLines_execFrameNotIntact h
  | defineLoad t =>
    exact sameLines_runs defineLoad (fun _ => rfl) h fun _ _ =>
      .bind fun _ => .bind fun _ => .bind fun _ => .frame rfl rfl
  | enableLoad t =>
    exact sameLines_runs enableLoad (fun _ => rfl) h fun _ _ =>
      .bind fun _ => .bind fun _ => .bind fun _ => .frame rfl rfl
  | disableLoad t =>
    exact sameLines_runs disableLoad (fun _ => rfl) h fun p _ => leavesLines_disableLoad p
  | releaseLoad t =>
    exact sameLines_runs releaseLoad (fun _ => rfl) h fun _ _ =>
      .bind fun _ => .bind fun _ => .bind fun _ => .frame rfl rfl
  | setLevel t =>
    exact sameLines_runs setLevel (fun _ => rfl) h fun _ _ =>
      .bind fun _ => .bind fun _ => .bind fun _ => .bind fun _ => .frame rfl rfl
  | setLock t =>
    exact sameLines_runs setLock (fun _ => rfl) h fun _ _ =>
      .bind fun _ => .bind fun _ => .bind fun _ => .frame rfl rfl
  | clearFault t =>
    exact sameLines_runs clearFault (fun _ => rfl) h fun _ _ =>
      .bind fun _ => .bind fun _ => .frame rfl rfl
  | readLoad t =>
    exact sameLines_runs readLoad (fun _ => rfl) h fun _ _ => .bind fun _ => .frame rfl rfl
  | stageLoad t =>
    exact sameLines_runs stageLoad (fun _ => rfl) h fun _ _ =>
      .bind fun _ => .bind fun _ => .bind fun _ => .bind fun _ => .frame rfl rfl
  | discardStaged t =>
    exact sameLines_runs discardStaged (fun _ => rfl) h fun _ _ =>
      .bind fun _ => .bind fun _ => .bind fun _ => .frame rfl rfl
  | commit t => exact sameLines_runs Machine.commit (fun _ => rfl) h fun p _ => leavesLines_commit p
  | readCommit t => exact sameLines_runs readCommit (fun _ => rfl) h fun _ _ => .frame rfl rfl
  | writeScene t =>
    exact sameLines_runs writeScene (fun _ => rfl) h fun _ _ =>
      .bind fun _ => .bind fun _ => .bind fun _ => .frame rfl rfl
  | deleteScene t =>
    exact sameLines_runs deleteScene (fun _ => rfl) h fun _ _ =>
      .bind fun _ => .bind fun _ => .frame rfl rfl
  | readScene t =>
    exact sameLines_runs readScene (fun _ => rfl) h fun _ _ => .bind fun _ => .frame rfl rfl
  | recallScene t =>
    exact sameLines_runs Machine.recallScene (fun _ => rfl) h fun _ _ =>
      .bind fun _ => .bind fun _ => .bind fun _ => .bind fun _ => .frame rfl rfl
  | readPool t => exact sameLines_runs readPool (fun _ => rfl) h fun _ _ => .frame rfl rfl
  | configureLink t =>
    exact sameLines_runs configureLink (fun _ => rfl) h fun p _ => leavesLines_configureLink p
  | enrollStation t =>
    exact sameLines_runs enrollStation (fun _ => rfl) h fun p _ => leavesLines_enrollStation p
  | removeStation t =>
    exact sameLines_runs removeStation (fun _ => rfl) h fun p _ => leavesLines_removeStation p
  | readStation t =>
    exact sameLines_runs readStation (fun _ => rfl) h fun _ _ => .bind fun _ => .frame rfl rfl
  | readSummary t => exact sameLines_runs readSummary (fun _ => rfl) h fun _ _ => .frame rfl rfl
  | readEvents t =>
    exact sameLines_runs readEvents (fun _ => rfl) h fun _ _ => .bind fun _ => .frame rfl rfl
  | setEventMask t =>
    exact sameLines_runs setEventMask (fun _ => rfl) h fun _ _ => .bind fun _ => .frame rfl rfl
  | allOff t => exact sameLines_runs Machine.allOff (fun _ => rfl) h fun _ _ => .frame rfl rfl
  | identify t => exact sameLines_runs identify (fun _ => rfl) h fun _ _ => .frame rfl rfl
  | _ =>
    -- The RECALL row: its constructor is named by a word that Mathlib reserves.
    rename_i t frame
    exact sameLines_takes (show execRecall t frame s = _ from h) fun _ =>
      sameLines_takeReply frame handlesSameLines_recall

/-- Every command keeps the trackers and the line configuration in range. -/
theorem trackersOk_exec (hs : s.TrackersOk) {c : Instr} (h : exec c s = .next u) : u.TrackersOk := by
  cases c with
  | powerOnReset =>
    obtain rfl := Host.Outcome.next.inj h
    split <;> exact trackersOk_of_reset rfl rfl
  | pinReset t =>
    exact hs.takes (show execPinReset t s = _ from h) fun _ _ => trackersOk_of_reset rfl rfl
  | zeroCrossEdge t line level =>
    have hzc : TrackersOk { s with zc := s.zc.set line level } := hs
    have h' : execZeroCrossEdge t line level s = .next u := h
    unfold execZeroCrossEdge at h'
    exact hzc.takes h' fun v hv =>
      hv.moveTracker (((trackersOk_iff.1 hv).2 line).edge hv.1 v.now level)
  | acquisitionTimeout t line =>
    exact hs.takes (show execAcquisitionTimeout t line s = _ from h) fun v hv =>
      hv.set (((trackersOk_iff.1 hv).2 line).timeout v.now) rfl rfl
  | acceptanceWindowClose t line =>
    exact hs.takes (show execAcceptanceWindowClose t line s = _ from h) fun v hv =>
      hv.moveTracker (((trackersOk_iff.1 hv).2 line).windowClose hv.1 v.now)
  | configureLines t =>
    refine hs.runs (body := configureLines) (fun _ => rfl) h fun p v w payload hw hv => ?_
    obtain ⟨c, hc, rfl⟩ := configured_of_ok hw
    exact hv.configured (lineConfigAt_ok hc)
  | readLine t =>
    refine hs.runs (body := readLine) (fun _ => rfl) h fun p v w payload hw hv => ?_
    simp only [readLine, bind_eq_ok, argument_eq_ok, pure_eq_ok, Prod.mk.injEq] at hw
    obtain ⟨l, -, rfl, -⟩ := hw
    exact hv.set ((trackersOk_iff.1 hv).2 l).clearNoise rfl rfl
  | restart t =>
    refine hs.runs (body := restart) (fun _ => rfl) h fun p v w payload hw hv => ?_
    obtain ⟨rfl, -⟩ := Prod.mk.inj (Except.ok.inj hw)
    exact hv.softReset
  | _ => exact (sameLines_exec rfl h).trackersOk hs

end State

/-- Settles O7: the commands that leave the lines alone keep everything about them, and each of the others
keeps every tracker in range. -/
theorem stepKeepsTrackers : Obligations.StepKeepsTrackers := by
  intro s u hs h
  unfold step at h
  split at h
  · obtain rfl := Host.Outcome.next.inj h
    exact hs
  · rename_i c rest _
    have hrest : State.TrackersOk { s with pending := rest } := hs
    exact State.trackersOk_exec hrest h

end Sys2Proof.Machine
end

section
/-!
SUPPORT. What an edge, an acquisition timeout and an empty acceptance window do: one equation for each
case of the lock state.
-/

namespace Sys2Proof.Machine

/-! ## The three commands of line tracking -/

section commands

variable {s : State} (h : s.rstLow = false) (t : Nat) (l : Line)
include h

theorem exec_zeroCrossEdge (level : Bool) : exec (.zeroCrossEdge t l level) s =
    .next (State.moveTracker { s with now := max s.now t, zc := s.zc.set l level } l
      ((s.trackers.get l).edge s.lineConfig (max s.now t) level)) :=
  congrArg Host.Outcome.next (if_neg (by simp [h]))

theorem exec_acquisitionTimeout : exec (.acquisitionTimeout t l) s =
    .next { s with
      now := max s.now t
      trackers := s.trackers.set l ((s.trackers.get l).timeout (max s.now t)) } :=
  congrArg Host.Outcome.next (if_neg (by simp [h]))

theorem exec_acceptanceWindowClose : exec (.acceptanceWindowClose t l) s =
    .next (State.moveTracker { s with now := max s.now t } l
      ((s.trackers.get l).windowClose s.lineConfig (max s.now t))) :=
  congrArg Host.Outcome.next (if_neg (by simp [h]))

end commands

/-- A tracker that neither reports nor announces only takes its new value. -/
theorem State.moveTracker_stay (s : State) (l : Line) (x : Tracker) :
    s.moveTracker l x.stay = { s with trackers := s.trackers.set l x } := rfl

namespace Tracker

variable {x : Tracker} {cfg : LineConfig} {k : Track} {last now n p : Nat} {run : List Nat}

/-! ## Acquisition (R32 to R34) -/

section acquisition

variable (level : Bool)

theorem edge_absent (hx : x.lock = .absent) :
    x.edge cfg now level = stay { x with lock := .acquiring now [] } := by
  simp only [edge, hx]

theorem edge_badSpacing (hx : x.lock = .acquiring last run) (hbad : ¬ GoodSpacing run (now - last)) :
    x.edge cfg now level = stay { x with lock := .acquiring now [] } := by
  simp only [edge, hx, acquire, goodSpacing_iff, hbad, if_false]

theorem edge_goodSpacing (hx : x.lock = .acquiring last run) (hgood : GoodSpacing run (now - last))
    (hlen : run.length < 2) :
    x.edge cfg now level = stay { x with lock := .acquiring now (run ++ [now - last]) } := by
  have hshort : (run ++ [now - last]).length ≠ Config.spacingsToLock := by
    simp only [List.length_append, List.length_singleton, Config.spacingsToLock]
    omega
  simp only [edge, hx, acquire, goodSpacing_iff, hgood, if_true, hshort, if_false]

theorem edge_thirdSpacing {a b : Nat} (hx : x.lock = .acquiring last [a, b])
    (hgood : GoodSpacing [a, b] (now - last)) :
    x.edge cfg now level =
      let k : Track :=
        ⟨(a + b + (now - last)) / 3, now, .ofLevel level, cfg.frontGuard, cfg.backGuard⟩
      ⟨{ x with lock := .locked k, counter := 0 }, some (k, true), some .locked⟩ := by
  have hsum : ([a, b] ++ [now - last]).sum = a + b + (now - last) := by simp [Nat.add_assoc]
  simp only [edge, hx, acquire, goodSpacing_iff, hgood, if_true, hsum]
  rfl

end acquisition

theorem timeout_due (hx : x.lock = .acquiring last run) (hdue : last + 25000 ≤ now) :
    x.timeout now = { x with lock := .absent } := by
  simp only [timeout, hx, hdue, if_true]

/-! ## The tracked line (R35 to R39) -/

/-- The half-period that a declared boundary at `now` leaves: smoothed in LOCKED, kept in HOLDOVER (R35,
R38). -/
def Declares (x : Tracker) (k : Track) (now p : Nat) : Prop :=
  (x.lock = .locked k ∧
    (p : Int) = max 7000 (min 11500 ((k.p : Int) + (((now : Int) - k.lastBoundary) - k.p).tdiv 8))) ∨
  ((∃ n, x.lock = .holdover k n) ∧ p = k.p)

/-- The smoothing of the model, in the integers. -/
theorem smoothed_eq (hnow : k.lastBoundary ≤ now)
    (hp : (p : Int) =
      max 7000 (min 11500 ((k.p : Int) + (((now : Int) - k.lastBoundary) - k.p).tdiv 8))) :
    smoothed k.p (now - k.lastBoundary) = p := by
  unfold smoothed
  dsimp only [Config.smoothing, Config.minHalfPeriod, Config.maxHalfPeriod]
  rw [Int.ofNat_sub hnow]
  omega

theorem edge_beforeWindow (hx : x.lock.track = some k) (hbefore : now + 250 < k.lastBoundary + k.p)
    (level : Bool) : x.edge cfg now level = x.noise := by
  have hbefore' : now + Config.acceptance < predicted k := hbefore
  cases hl : x.lock with
  | locked k' =>
    obtain rfl : k' = k := by simpa [hl, Lock.track] using hx
    simp only [edge, hl, hbefore', if_true]
  | holdover k' n =>
    obtain rfl : k' = k := by simpa [hl, Lock.track] using hx
    simp only [edge, hl, hbefore', if_true]
  | _ => simp [hl, Lock.track] at hx

theorem Declares.track (h : x.Declares k now p) : x.lock.track = some k := by
  rcases h with ⟨hx, -⟩ | ⟨⟨n, hx⟩, -⟩ <;> simp [hx, Lock.track]

theorem Declares.edge_inWindow (h : x.Declares k now p) (hnow : k.lastBoundary ≤ now)
    (hopen : k.lastBoundary + k.p ≤ now + 250) (hclose : now ≤ k.lastBoundary + k.p + 250)
    (level : Bool) : x.edge cfg now level = x.declare cfg p now level := by
  have hopen' : ¬ now + Config.acceptance < predicted k := Nat.not_lt.2 hopen
  have hclose' : now ≤ predicted k + Config.acceptance := hclose
  rcases h with ⟨hx, hp⟩ | ⟨⟨n, hx⟩, rfl⟩
  · simp only [edge, hx, hopen', if_false, hclose', if_true, smoothed_eq hnow hp]
  · simp only [edge, hx, hopen', if_false, hclose', if_true]

/-- An empty window after `n - 1` synthetic boundaries in a row, the fourth excluded (R37, R39). -/
def Coasts (x : Tracker) (k : Track) (n : Nat) : Prop :=
  (x.lock = .locked k ∧ n = 1) ∨ ∃ m, x.lock = .holdover k m ∧ m < 3 ∧ n = m + 1

theorem flip_eq (q : Polarity) : flip q = if q = .pos then .neg else .pos := by cases q <;> rfl

theorem Coasts.windowClose (h : x.Coasts k n) (hnow : k.lastBoundary + k.p + 250 ≤ now) :
    x.windowClose cfg now =
      x.synthesize cfg k n (if x.lock = .locked k then some .holdoverEntered else none) := by
  have hdue : predicted k + Config.acceptance ≤ now := hnow
  rcases h with ⟨hx, rfl⟩ | ⟨m, hx, hm, rfl⟩
  · simp only [Tracker.windowClose, hx, hdue, if_true]
  · simp [Tracker.windowClose, hx, hdue, hm]

theorem windowClose_fourth (hx : x.lock = .holdover k 3) (hnow : k.lastBoundary + k.p + 250 ≤ now) :
    x.windowClose cfg now = ⟨{ x with lock := .absent }, none, some .lost⟩ := by
  have hdue : predicted k + Config.acceptance ≤ now := hnow
  simp only [windowClose, hx, hdue, if_true, Nat.lt_irrefl, if_false]

end Tracker

/-! ## The statements -/

/-- Settles O18. -/
theorem acquisitionJudgesEachSpacing : Obligations.AcquisitionJudgesEachSpacing := by
  intro s t l h
  refine ⟨fun level hx => ?_, fun level last run hx hbad => ?_, fun level last run hx hgood hlen => ?_,
    fun last run hx hdue => ?_⟩
  · rw [exec_zeroCrossEdge h, Tracker.edge_absent level hx, State.moveTracker_stay]
  · rw [exec_zeroCrossEdge h, Tracker.edge_badSpacing level hx hbad, State.moveTracker_stay]
  · rw [exec_zeroCrossEdge h, Tracker.edge_goodSpacing level hx hgood hlen, State.moveTracker_stay]
  · rw [exec_acquisitionTimeout h, Tracker.timeout_due hx hdue]

/-- Settles O19. -/
theorem thirdGoodSpacingLocks : Obligations.ThirdGoodSpacingLocks := by
  intro s t l level last a b h hx hgood
  rw [exec_zeroCrossEdge h, Tracker.edge_thirdSpacing level hx hgood]
  rfl

/-- Settles O20. -/
theorem trackedEdgeIsNoiseOrBoundary : Obligations.TrackedEdgeIsNoiseOrBoundary := by
  intro s t l level k p h x now spacing c htrack
  have hdeclares : x.Declares k now p := htrack
  refine ⟨fun hbefore => ?_, fun hnow hopen hclose => ?_⟩
  · rw [exec_zeroCrossEdge h, Tracker.edge_beforeWindow hdeclares.track hbefore]
    rfl
  · rw [exec_zeroCrossEdge h, hdeclares.edge_inWindow hnow hopen hclose]
    rfl

/-- Settles O21. -/
theorem emptyWindowGivesSyntheticBoundary : Obligations.EmptyWindowGivesSyntheticBoundary := by
  intro s t l k n h x now c b q hcoasts hnow
  have hclose : x.windowClose c now = _ := Tracker.Coasts.windowClose hcoasts hnow
  rw [exec_acceptanceWindowClose h, hclose]
  have hq : q = Tracker.flip k.polarity := (Tracker.flip_eq _).symm
  rw [hq]
  split <;> rfl

end Sys2Proof.Machine
end

section
/-!
SUPPORT. Line losses: what one loss does to the part, and what any losses together have done to it.
-/

namespace Sys2Proof.Machine

namespace State

variable {s u : State} {l : Line} {n : LoadIx}

theorem waitsOn_iff : s.waitsOn l n = true ↔ ⟨n, l⟩ ∈ s.commit.members := by
  simp only [waitsOn, List.any_eq_true, Bool.and_eq_true, beq_iff_eq]
  constructor
  · rintro ⟨m, hm, rfl, rfl⟩
    exact hm
  · exact fun h => ⟨_, h, rfl, rfl⟩

/-! ## One line loss (R42) -/

/-- A line loss up to the cut: the flag, the list, the waiting entries and the quiet sample of the line. -/
def dropLine (s : State) (l : Line) : State :=
  { s with
    firing := { s.firing with
      lists := s.firing.lists.set l []
      waiting := s.firing.waiting.filter fun e => !decide (e.line = l) }
    monitor := { s.monitor with quiet := s.monitor.quiet.set l none }
    attention := s.attention.reportLine l fun d => { d with lost := true } }

theorem loseLine_eq (s : State) (l : Line) : s.loseLine l =
    ((s.dropLine l).cutLoads fun n => (s.load n).onLine l).applyMembers (s.waitsOn l) := rfl

theorem NoGateActivity.dropLine (h : s.NoGateActivity n) (l : Line) : (s.dropLine l).NoGateActivity n := by
  obtain ⟨hgate, hwaiting, hlists, hchecks⟩ := h
  refine ⟨hgate, fun e he => hwaiting e (List.mem_of_mem_filter he), fun m e he => ?_, hchecks⟩
  by_cases hm : m = l
  · subst hm
    simp [State.dropLine] at he
  · exact hlists m e (by simpa [State.dropLine, hm] using he)

theorem NoGateActivity.loseLine (h : s.NoGateActivity n) (l : Line) : (s.loseLine l).NoGateActivity n :=
  ((h.dropLine l).cutLoads _).applyMembers _

/-- The loads of the line are cut. -/
theorem noGateActivity_loseLine (h : (s.load n).onLine l = true) : (s.loseLine l).NoGateActivity n :=
  (noGateActivity_cutLoads (s.dropLine l) (p := fun n => (s.load n).onLine l) h).applyMembers _

/-- A member whose line changes by its apply is cut with it (R114). -/
theorem noGateActivity_applyMembers {p : LoadIx → Bool} (hp : p n = true)
    (h : (s.load n).changesLine = true) : (s.applyMembers p).NoGateActivity n := by
  have hcut : (s.cutLoads fun m => p m && (s.load m).changesLine).NoGateActivity n :=
    noGateActivity_cutLoads s (by simp [hp, h])
  refine hcut.congr (applyMembers_firing s p) ?_
  simp [applyMembers, Monitor.removeChecks]

theorem noGateActivity_loseLine_of_moved (hw : s.waitsOn l n = true) (h : (s.load n).changesLine = true) :
    (s.loseLine l).NoGateActivity n :=
  noGateActivity_applyMembers (s := (s.dropLine l).cutLoads fun n => (s.load n).onLine l) hw h

theorem mem_lists_loseLine {m : Line} {e : FiringEntry} (he : e ∈ (s.loseLine l).firing.lists.get m) :
    m ≠ l ∧ e ∈ s.firing.lists.get m := by
  rw [loseLine_eq, applyMembers_firing, Firing.grant_lists, Firing.mem_remove_lists, cutLoads_firing,
    Firing.grant_lists, Firing.mem_remove_lists] at he
  obtain ⟨⟨he, -⟩, -⟩ := he
  by_cases hm : m = l
  · subst hm
    simp [dropLine] at he
  · exact ⟨hm, by simpa [dropLine, hm] using he⟩

theorem mem_waiting_loseLine {e : PulseEntry} (he : e ∈ (s.loseLine l).firing.waiting) :
    e.line ≠ l ∧ e ∈ s.firing.waiting := by
  rw [loseLine_eq, applyMembers_firing] at he
  obtain ⟨he, -⟩ := (Firing.mem_remove_waiting _ _).1 (Firing.mem_grant_waiting _ _ he)
  obtain ⟨he, -⟩ := (Firing.mem_remove_waiting _ _).1 (Firing.mem_grant_waiting _ _ he)
  obtain ⟨he, hline⟩ := List.mem_filter.1 he
  exact ⟨by simpa using hline, he⟩

theorem quiet_loseLine_self (s : State) (l : Line) : (s.loseLine l).monitor.quiet.get l = none := by
  simp [loseLine_eq, applyMembers, dropLine, Monitor.removeChecks]

theorem quiet_loseLine_none {m : Line} (h : s.monitor.quiet.get m = none) :
    (s.loseLine l).monitor.quiet.get m = none := by
  by_cases hm : m = l
  · subst hm
    exact quiet_loseLine_self s m
  · simp [loseLine_eq, applyMembers, dropLine, Monitor.removeChecks, hm, h]

@[simp] theorem loseLine_members (s : State) (l : Line) : (s.loseLine l).commit.members =
    s.commit.members.filter fun m => !s.waitsOn l m.load := by
  rw [loseLine_eq, applyMembers_members]
  rfl

/-- An apply reports nothing but a completed commit (R116). -/
theorem applyMembers_details (s : State) (p : LoadIx → Bool) : (s.applyMembers p).attention =
    { s.attention with commit := (s.applyMembers p).attention.commit } := by
  rcases applyMembers_completes s p with ⟨-, -, -, h⟩ | ⟨-, -, h⟩
  · rw [h]
    rfl
  · rw [h]

theorem loseLine_line (s : State) (l : Line) : (s.loseLine l).attention.line =
    s.attention.line.set l { s.attention.line.get l with lost := true } := by
  rw [loseLine_eq, applyMembers_details]
  rfl

/-- A loss reports under LINE, and under COMMIT where it completes the commit. -/
theorem loseLine_details (s : State) (l : Line) : (s.loseLine l).attention = { s.attention with
    line := (s.loseLine l).attention.line, commit := (s.loseLine l).attention.commit } := by
  rw [loseLine_line]
  exact applyMembers_details _ _

theorem loseLine_frame (s : State) (l : Line) : s.loseLine l = { s with
    loads := (s.loseLine l).loads, firing := (s.loseLine l).firing, monitor := (s.loseLine l).monitor
    commit := (s.loseLine l).commit, attention := (s.loseLine l).attention } := by
  refine (applyMembers_frame ((s.dropLine l).cutLoads fun n => (s.load n).onLine l) (s.waitsOn l)).trans ?_
  rw [applyMembers_port]
  rfl

/-! ## Losses one after another -/

/-- From `s` to `u` the lines of `L`, and no others, have been lost: no gate activity of their loads is
left, nor of the members whose line changed, their lists, waiting entries and quiet samples are gone, the
members waiting on them are applied, and LINE lost is raised (R42). What the trackers became is not said
here. -/
structure LostLines (L : Line → Prop) (s u : State) : Prop where
  gates : ∀ l n, L l → (s.load n).onLine l = true → u.NoGateActivity n
  moved : ∀ l n, L l → s.waitsOn l n = true → (s.load n).changesLine = true → u.NoGateActivity n
  entries : ∀ l, L l → u.firing.lists.get l = [] ∧ (∀ e ∈ u.firing.waiting, e.line ≠ l) ∧
    u.monitor.quiet.get l = none
  applied : ∀ n, (∃ l, L l ∧ s.waitsOn l n = true) → u.load n = (s.load n).applyStaged
  kept : ∀ n, (∀ l, L l → s.waitsOn l n = false) → u.load n = s.load n
  members : ∀ m, m ∈ u.commit.members ↔
    m ∈ s.commit.members ∧ ∀ l, L l → s.waitsOn l m.load = false
  flagged : ∀ l, L l → u.attention.line.get l = { s.attention.line.get l with lost := true }
  unflagged : ∀ l, ¬ L l → u.attention.line.get l = s.attention.line.get l
  details : u.attention = { s.attention with line := u.attention.line, commit := u.attention.commit }
  silent : (∀ l, ¬ L l) → u = { s with trackers := u.trackers }
  frame : u = { s with
    trackers := u.trackers, loads := u.loads, firing := u.firing, monitor := u.monitor
    commit := u.commit, attention := u.attention }

namespace LostLines

variable {L : Line → Prop}

theorem refl (s : State) : LostLines (fun _ => False) s s := by
  constructor <;> simp

/-- A member still waits on `l` after the losses where it waited on `l` before, and on no lost line. -/
theorem waitsOn_iff (h : LostLines L s u) :
    u.waitsOn l n = true ↔ s.waitsOn l n = true ∧ ∀ m, L m → s.waitsOn m n = false := by
  rw [State.waitsOn_iff, h.members, State.waitsOn_iff]

/-- Moved trackers are no line loss of their own. -/
theorem setTrackers (h : LostLines L s u) (x : PerLine Tracker) :
    LostLines L s { u with trackers := x } where
  gates := h.gates
  moved := h.moved
  entries := h.entries
  applied := h.applied
  kept := h.kept
  members := h.members
  flagged := h.flagged
  unflagged := h.unflagged
  details := h.details
  silent hL := by
    rw [h.silent hL]
  frame := by
    conv_lhs => rw [h.frame]

theorem load_cases (h : LostLines L s u) (n : LoadIx) :
    (∃ m, L m ∧ s.waitsOn m n = true ∧ u.load n = (s.load n).applyStaged) ∨
    ((∀ m, L m → s.waitsOn m n = false) ∧ u.load n = s.load n) := by
  by_cases hn : ∃ m, L m ∧ s.waitsOn m n = true
  · obtain ⟨m, hm, hw⟩ := hn
    exact .inl ⟨m, hm, hw, h.applied n ⟨m, hm, hw⟩⟩
  · have hnone (m : Line) (hm : L m) : s.waitsOn m n = false := by
      rw [Bool.eq_false_iff]
      exact fun hw => hn ⟨m, hm, hw⟩
    exact .inr ⟨hnone, h.kept n hnone⟩

theorem port (h : LostLines L s u) : u.port = s.port := (congrArg State.port h.frame).trans rfl

theorem lost_iff (h : LostLines L s u) (l : Line) :
    (u.attention.line.get l).lost = true ↔ L l ∨ (s.attention.line.get l).lost = true := by
  by_cases hl : L l
  · simp [h.flagged l hl, hl]
  · simp [h.unflagged l hl, hl]

/-- A loss raises no other flag of LINE. -/
theorem line_eq (h : LostLines L s u) (l : Line) : u.attention.line.get l =
    { s.attention.line.get l with lost := (u.attention.line.get l).lost } := by
  by_cases hl : L l
  · rw [h.flagged l hl]
  · rw [h.unflagged l hl]

/-- One more line is lost. -/
theorem loseLine (h : LostLines L s u) (l : Line) :
    LostLines (fun m => L m ∨ m = l) s (u.loseLine l) where
  gates m n hm hn := by
    rcases hm with hm | rfl
    · exact (h.gates m n hm hn).loseLine l
    · rcases h.load_cases n with ⟨k, hk, hw, hu⟩ | ⟨-, hu⟩
      · cases hc : (s.load n).changesLine with
        | true => exact (h.moved k n hk hw hc).loseLine m
        | false => exact noGateActivity_loseLine (by rw [hu]; exact Record.onLine_applyStaged _ hn hc)
      · exact noGateActivity_loseLine (by rwa [hu])
  moved m n hm hw hc := by
    rcases hm with hm | rfl
    · exact (h.moved m n hm hw hc).loseLine l
    · rcases h.load_cases n with ⟨k, hk, hw', -⟩ | ⟨hnone, hu⟩
      · exact (h.moved k n hk hw' hc).loseLine m
      · exact noGateActivity_loseLine_of_moved (h.waitsOn_iff.2 ⟨hw, hnone⟩) (by rwa [hu])
  entries m hm := by
    refine ⟨List.eq_nil_iff_forall_not_mem.2 fun e he => ?_, fun e he => ?_, ?_⟩
    · obtain ⟨hne, he⟩ := mem_lists_loseLine he
      obtain ⟨hnil, -⟩ := h.entries m (hm.resolve_right hne)
      simp [hnil] at he
    · obtain ⟨hne, he⟩ := mem_waiting_loseLine he
      rcases hm with hm | rfl
      · obtain ⟨-, hwaiting, -⟩ := h.entries m hm
        exact hwaiting e he
      · exact hne
    · rcases hm with hm | rfl
      · obtain ⟨-, -, hquiet⟩ := h.entries m hm
        exact quiet_loseLine_none hquiet
      · exact quiet_loseLine_self u m
  applied n hn := by
    rw [load_loseLine]
    rcases h.load_cases n with ⟨k, hk, hw, hu⟩ | ⟨hnone, hu⟩
    · rw [if_neg, hu]
      exact fun hw' => Bool.eq_false_iff.1 ((h.waitsOn_iff.1 hw').2 k hk) hw
    · obtain ⟨m, hm | rfl, hw⟩ := hn
      · exact absurd hw (Bool.eq_false_iff.1 (hnone m hm))
      · rw [if_pos (h.waitsOn_iff.2 ⟨hw, hnone⟩), hu]
  kept n hn := by
    rw [load_loseLine, if_neg, h.kept n fun m hm => hn m (.inl hm)]
    exact fun hw => Bool.eq_false_iff.1 (hn l (.inr rfl)) (h.waitsOn_iff.1 hw).1
  members m := by
    have hrest : u.waitsOn l m.load = false ↔
        (s.waitsOn l m.load = false ∨ ¬ ∀ k, L k → s.waitsOn k m.load = false) := by
      rw [← Bool.not_eq_true, h.waitsOn_iff, not_and_or, Bool.not_eq_true]
    simp only [loseLine_members, List.mem_filter, h.members, Bool.not_eq_true', hrest, or_imp,
      forall_and, forall_eq]
    tauto
  flagged m hm := by
    rw [loseLine_line]
    by_cases hl : m = l
    · subst hl
      rw [PerLine.get_set_self]
      by_cases hL : L m
      · rw [h.flagged m hL]
      · rw [h.unflagged m hL]
    · rw [PerLine.get_set_ne _ hl]
      exact h.flagged m (hm.resolve_right hl)
  unflagged m hm := by
    obtain ⟨hm, hl⟩ := not_or.1 hm
    rw [loseLine_line, PerLine.get_set_ne _ hl]
    exact h.unflagged m hm
  details := (loseLine_details u l).trans <| congrArg (fun a : Attention => { a with
    line := (u.loseLine l).attention.line, commit := (u.loseLine l).attention.commit }) h.details
  silent hL := absurd (.inr rfl) (hL l)
  frame := by
    rw [loseLine_trackers]
    exact (loseLine_frame u l).trans <| congrArg (fun v : State => { v with
      loads := (u.loseLine l).loads, firing := (u.loseLine l).firing, monitor := (u.loseLine l).monitor
      commit := (u.loseLine l).commit, attention := (u.loseLine l).attention }) h.frame

end LostLines

/-! ## CONFIGURE_LINES (R29, R30) -/

/-- A change of the enables that loses line `l`: it was enabled, it is no longer, and it is tracked. -/
def Loses (s : State) (before after : PerLine Bool) (l : Line) : Prop :=
  before.get l = true ∧ after.get l = false ∧ s.tracks l = true

/-- A tracker under new enables takes its new value, with a line loss where the change loses the line. -/
theorem configureTracker_cases (s : State) (before after : PerLine Bool) (l : Line) :
    ∃ x, (s.Loses before after l ∧
        s.configureTracker before after l = { s with trackers := x }.loseLine l) ∨
      (¬ s.Loses before after l ∧ s.configureTracker before after l = { s with trackers := x }) := by
  refine ⟨s.trackers.set l ((s.trackers.get l).configure (before.get l) (after.get l)).tracker, ?_⟩
  unfold configureTracker Loses tracks
  cases before.get l with
  | false => exact .inr ⟨by simp, by cases after.get l <;> rfl⟩
  | true =>
    cases after.get l with
    | true => exact .inr ⟨by simp, rfl⟩
    | false =>
      cases htrack : (s.trackers.get l).lock.track.isSome with
      | true => exact .inl ⟨by simp, by simp [moveTracker, Tracker.configure, htrack, lineEvent]⟩
      | false => exact .inr ⟨by simp, by simp [moveTracker, Tracker.configure, htrack, lineEvent]⟩

theorem LostLines.configureTracker {L L' : Line → Prop} (h : LostLines L s u)
    (before after : PerLine Bool) (l : Line)
    (hL : ∀ m, L' m ↔ L m ∨ (m = l ∧ u.Loses before after l)) :
    LostLines L' s (u.configureTracker before after l) := by
  obtain ⟨x, ⟨hloses, hu⟩ | ⟨hkeeps, hu⟩⟩ := configureTracker_cases u before after l <;> rw [hu]
  · have hL' : L' = fun m => L m ∨ m = l := funext fun m => propext (by simp [hL, hloses])
    rw [hL']
    exact (h.setTrackers x).loseLine l
  · have hL' : L' = L := funext fun m => propext (by simp [hL, hkeeps])
    rw [hL']
    exact h.setTrackers x

/-- The move of one tracker leaves the other lines tracked as they were. -/
theorem loses_configureTracker {l m : Line} (hm : m ≠ l) (b a before after : PerLine Bool) :
    (s.configureTracker b a l).Loses before after m ↔ s.Loses before after m := by
  simp [Loses, tracks, State.configureTracker, hm]

/-- The three trackers under new enables, one after another: each line is judged as at the start. -/
theorem lostLines_configureTrackers (s : State) (before after : PerLine Bool) :
    LostLines (s.Loses before after) s (((s.configureTracker before after .a).configureTracker
      before after .b).configureTracker before after .c) := by
  have ha := (LostLines.refl s).configureTracker before after .a
    (L' := fun m => m = .a ∧ s.Loses before after m) fun m => by cases m <;> simp
  have hb := ha.configureTracker before after .b (L' := fun m => m ≠ .c ∧ s.Loses before after m)
    fun m => by cases m <;> simp [loses_configureTracker]
  exact hb.configureTracker before after .c fun m => by cases m <;> simp [loses_configureTracker]

theorem lostLines_configured (s : State) (c : LineConfig) :
    LostLines (s.Loses s.lineConfig.enable c.enable) { s with lineConfig := c } (s.configured c) :=
  lostLines_configureTrackers { s with lineConfig := c } s.lineConfig.enable c.enable

end State

/-- The payload of CONFIGURE_LINES reads back as the six settings (R29, R186). -/
theorem lineConfigAt_settings {a b c : Bool} {front back nominal : Nat}
    (h : LineConfig.Ok ⟨⟨a, b, c⟩, front, back, nominal⟩) :
    lineConfigAt (byte (a.toNat + 2 * b.toNat + 4 * c.toNat) ::
      (word front ++ word back ++ word nominal)) = some ⟨⟨a, b, c⟩, front, back, nominal⟩ := by
  obtain ⟨hfront, hfront', hback, hback', hsum, hnominal, hnominal'⟩ := h
  dsimp only [Config.minHalfPeriod, Config.maxHalfPeriod] at *
  have hf := word_toNat (n := front) (by omega)
  have hb := word_toNat (n := back) (by omega)
  have hn := word_toNat (n := nominal) (by omega)
  have henables : (byte (a.toNat + 2 * b.toNat + 4 * c.toNat)).toNat =
      a.toNat + 2 * b.toNat + 4 * c.toNat := by cases a <;> cases b <;> cases c <;> rfl
  simp only [lineConfigAt, word_eq, wordAt, List.cons_append, List.nil_append, byteAt_zero, byteAt_succ,
    henables, hf, hb, hn]
  rw [if_pos]
  · cases a <;> cases b <;> cases c <;> rfl
  · refine ⟨?_, hfront, hfront', hback, hback', hnominal, hnominal', hsum⟩
    cases a <;> cases b <;> cases c <;> decide

/-! ## The statements -/

/-- Settles O22. -/
theorem fourthEmptyWindowLosesLine : Obligations.FourthEmptyWindowLosesLine := by
  intro s t l k h hx hnow
  let moved : State := { s with
    now := max s.now t, trackers := s.trackers.set l { s.trackers.get l with lock := .absent } }
  have hlost := (State.LostLines.refl moved).loseLine l
  obtain ⟨hlist, hwaiting, hquiet⟩ := hlost.entries l (.inr rfl)
  refine ⟨moved.loseLine l, ?_, State.loseLine_trackers _ _, fun n hn => hlost.gates l n (.inr rfl) hn,
    hwaiting, hlist, hquiet, fun m hm hline => ?_, State.load_loseLine moved l, ?_, ?_⟩
  · rw [exec_acceptanceWindowClose h, Tracker.windowClose_fourth hx hnow]
    rfl
  · obtain ⟨hmem, hnone⟩ := (hlost.members m).1 hm
    have hwaits : moved.waitsOn l m.load = true := State.waitsOn_iff.2 (hline ▸ hmem)
    simp [hnone l (.inr rfl)] at hwaits
  · exact (State.loseLine_details moved l).trans (by rw [State.loseLine_line])
  · exact hlost.frame

/-- Settles O60. -/
theorem configureLinesMovesTrackers : Obligations.ConfigureLinesMovesTrackers := by
  intro s t a b c front back nominal hfront hfront' hback hback' hsum hnominal hnominal' h enable lost
  let config : LineConfig := ⟨enable, front, back, nominal⟩
  have hconfig : lineConfigAt _ = some config :=
    lineConfigAt_settings ⟨hfront, hfront', hback, hback', hsum, hnominal, hnominal'⟩
  let v : State := (s.at t).configured config
  have hlost : State.LostLines lost { s.at t with lineConfig := v.lineConfig } v := by
    rw [show v.lineConfig = config from State.configured_lineConfig config]
    exact State.lostLines_configured (s.at t) config
  have hport : v.port = s.port := hlost.port
  refine ⟨v.respond .ok [], h.exec_ok (fun _ => rfl) rfl rfl (State.configureLines_ok hconfig _),
    State.answers_respond_of_port hport .ok [], State.configured_lineConfig config, fun l => ?_,
    hlost.gates, hlost.entries, hlost.applied, hlost.kept, hlost.members, fun l hl m hm hline => ?_,
    fun l => ?_, fun l => ?_, hlost.details, fun hnone => ?_, ?_⟩
  · exact (State.configured_trackers (s.at t) config l).trans (Tracker.configure_tracker _ _ _)
  · obtain ⟨hmem, hnone⟩ := (hlost.members m).1 hm
    have hwaits : s.waitsOn l m.load = true := State.waitsOn_iff.2 (hline ▸ hmem)
    exact Bool.eq_false_iff.1 (hnone l hl) hwaits
  · exact hlost.lost_iff l
  · exact hlost.line_eq l
  · exact congrArg (fun w : State => { w with port := (v.respond .ok []).port }) (hlost.silent hnone)
  · exact congrArg (fun w : State => { w with port := (v.respond .ok []).port }) hlost.frame

end Sys2Proof.Machine
end

section
/-!
SUPPORT. Levels: what SET_LEVEL claims, and what a half-cycle boundary does to each record.
-/

namespace Sys2Proof.Machine

/-! ## SET_LEVEL -/

/-- The half-period of R53 of a load, by the lock state of its line. -/
theorem State.halfPeriodOf_eq {s : State} {r : Record} {c : LoadConfig} (hc : r.config = some c) :
    s.halfPeriodOf r = match (s.trackers.get c.line).lock with
      | .locked k => k.p
      | .holdover k _ => k.p
      | _ => s.lineConfig.nominalHalfPeriod := by
  simp only [State.halfPeriodOf, hc, State.halfPeriod]
  cases (s.trackers.get c.line).lock <;> rfl

theorem setLevel_ok {p : List Byte} {s : State} {n : LoadIx} {level fade : Nat}
    (hn : indexAt 24 p 0 = some n) (hlevel : wordAt p 1 = level) (hfade : wordAt p 3 = fade)
    (hl : level ≤ 1000) (hf : fade ≤ 6000) (hi : s.firing.inhibit = false)
    (hs : (s.load n).state = .active) : setLevel p s =
      .ok (s.modifyLoad n fun r => r.claim level fade (s.halfPeriodOf r) .command, []) := by
  simp [setLevel, hn, hlevel, hfade, hl, hf, hi, State.inState, hs]

/-- Settles O47. -/
theorem setLevelClaimsTarget : Obligations.SetLevelClaimsTarget := by
  intro s t n c level fade hl hf h hi hs hc p
  obtain ⟨hlevel, hfade⟩ := setLevel_fields (byte n.val) hl hf
  have hp : s.halfPeriodOf (s.load n) = p := State.halfPeriodOf_eq hc
  obtain ⟨u, hu, hset⟩ := h.exec_modifyLoad (c := .setLevel t) (fun _ => rfl) rfl rfl
    (setLevel_ok (indexAt_byte n (by decide) _) hlevel hfade hl hf hi hs)
  rw [← hp, ← Record.claim_eq_claimed]
  exact ⟨u, hu, hset⟩

/-! ## The half-cycle boundary on one record -/

namespace Record

variable (r : Record)

/-- A ramp step in the terms of R55: a record without a ramp keeps its level. -/
theorem rampStep_eq : r.rampStep = { r with
    currentLevel := match r.ramp with
      | none => r.currentLevel
      | some x => ((r.currentLevel : Int) +
          ((r.targetLevel : Int) - r.currentLevel).tdiv x.remaining).toNat
    ramp := match r.ramp with
      | none => none
      | some x => if x.remaining ≤ 1 then none else some { x with remaining := x.remaining - 1 } } := by
  obtain ⟨state, config, current, target, ramp⟩ := r
  cases ramp with
  | none => rfl
  | some x => simp only [rampStep, Nat.sub_eq_zero_iff_le]

@[simp] theorem rampStep_burstAccumulator : r.rampStep.burstAccumulator = r.burstAccumulator := by
  rw [rampStep_eq]

/-- The effective level is made of configuration and current level alone (R9). -/
theorem effective_congr {r v : Record} (hc : v.config = r.config) (hl : v.currentLevel = r.currentLevel) :
    v.effective = r.effective := by
  simp only [effective, hc, hl]

/-- A BURST decision in the terms of R73. -/
theorem decideBurst_eq : r.decideBurst = { r with
    burstAccumulator := if 1000 ≤ r.burstAccumulator + r.effective then
      r.burstAccumulator + r.effective - 1000 else r.burstAccumulator + r.effective
    burstCycleOn := decide (1000 ≤ r.burstAccumulator + r.effective) } := by
  unfold decideBurst
  dsimp only
  split <;> rename_i h <;> simp [h]

/-- What the ramp step and the BURST decision of a boundary make of a record (R55, R73). -/
def atBoundary (b : Boundary) : Record :=
  let stepped := if r.isActive && r.onLine b.line then r.rampStep else r
  if b.polarity = .pos ∧ stepped.isActive && stepped.onLine b.line && stepped.inMode .burst then
    stepped.decideBurst
  else stepped

variable {r}

/-- An ACTIVE load of the line takes its ramp step, and in BURST at a POS boundary its decision after it. -/
theorem atBoundary_active {b : Boundary} (h : r.state = .active ∧ r.onLine b.line = true) :
    r.atBoundary b = if b.polarity = .pos ∧ r.inMode .burst = true then r.rampStep.decideBurst
      else r.rampStep := by
  obtain ⟨ha, hl⟩ := h
  have hl' : r.rampStep.onLine b.line = true := by simpa [onLine] using hl
  have hm' : r.rampStep.inMode .burst = r.inMode .burst := by simp [inMode]
  simp [atBoundary, isActive, ha, hl, hl', hm']

theorem atBoundary_other {b : Boundary} (h : ¬ (r.state = .active ∧ r.onLine b.line = true)) :
    r.atBoundary b = r := by
  have hoff : (r.isActive && r.onLine b.line) = false := by simpa [isActive] using h
  simp [atBoundary, hoff]

end Record

/-- A boundary makes of each record its ramp step and BURST decision after its apply, and changes nothing
else of it but skip_count (R69, R111). -/
theorem State.load_announce (s : State) (b : Boundary) (n : LoadIx) : ∃ skips, (s.announce b).load n =
    { (if s.waitsOn b.line n then (s.load n).applyStaged else s.load n).atBoundary b with
      skipCount := skips } := by
  rw [State.announce_eq, State.load_formQuiet, State.load_buildList, State.load_dropList,
    State.load_decideBursts, State.load_stepRamps, State.load_applyMembers]
  split
  · exact ⟨_, rfl⟩
  · exact ⟨_, rfl⟩

/-- Settles O23: the decision of a BURST load is taken from the level after its step, which the boundary
leaves as it is. -/
theorem boundaryStepsLevelsAndBursts : Obligations.BoundaryStepsLevelsAndBursts := by
  intro s b n r v sum
  obtain ⟨skips, hv⟩ : ∃ skips, v = { r.atBoundary b with skipCount := skips } := s.load_announce b n
  have hskip : v.skipCount = skips := by rw [hv]
  rw [hskip]
  split
  · rename_i hactive
    rw [Record.atBoundary_active hactive] at hv
    split at hv
    · rename_i hburst
      rw [Record.decideBurst_eq] at hv
      have hsum : sum = r.rampStep.burstAccumulator + r.rampStep.effective := by
        rw [Record.rampStep_burstAccumulator]
        exact congrArg _ (Record.effective_congr (by rw [hv]) (by rw [hv]))
      simp only [if_pos hburst, hsum]
      rw [Record.rampStep_eq] at hv ⊢
      exact hv
    · rename_i hburst
      simp only [if_neg hburst]
      rw [Record.rampStep_eq] at hv
      exact hv
  · rename_i hother
    rw [Record.atBoundary_other hother] at hv
    exact hv

end Sys2Proof.Machine
end

section
/-!
SUPPORT. Holds and the requests of stations: what stops a hold, and what a valid Reply makes of the part
before its request is carried out.
-/

namespace Sys2Proof.Machine

/-! ## Holds that stop (R64, R157) -/

namespace State

variable (s : State) (i : SlotIx)

/-- The stop of holds on each record, in the terms of the statements. -/
theorem holdStopped_stopHolds (p : SlotIx → Bool) (n : LoadIx) :
    (s.load n).holdStopped (p · = true) ((s.stopHolds p).load n) := by
  rw [load_stopHolds]
  refine ⟨fun k i hramp hp => ?_, fun hkept => ?_⟩
  · simp only [hramp, if_pos hp]
    rfl
  · split
    · rename_i k i hramp
      rw [if_neg (hkept k i hramp)]
    · rfl

theorem stopHoldOf_none {s : State} {i : SlotIx} (h : (s.slot i).hold = none) : s.stopHoldOf i = s := by
  simp [stopHoldOf, h]

theorem stopHoldOf_some {s : State} {i : SlotIx} (h : (s.slot i).hold.isSome = true) :
    s.stopHoldOf i = s.stopHolds fun j => j == i := by
  simp [stopHoldOf, h]

/-- The stop of one slot's hold settles the ramps of that hold, if there is one. -/
theorem holdStopped_stopHoldOf (n : LoadIx) :
    (s.load n).holdStopped (fun j => j = i ∧ (s.slot i).hold.isSome = true)
      ((s.stopHoldOf i).load n) := by
  cases h : (s.slot i).hold with
  | none =>
    rw [stopHoldOf_none h]
    exact ⟨fun _ _ _ hp => by simp at hp, fun _ => rfl⟩
  | some x =>
    rw [stopHoldOf_some (by simp [h])]
    simpa using s.holdStopped_stopHolds (fun j => j == i) n

theorem holdStopped_stopHoldOf_some {i : SlotIx} (h : (s.slot i).hold.isSome = true) (n : LoadIx) :
    (s.load n).holdStopped (· = i) ((s.stopHoldOf i).load n) := by
  simpa [h] using s.holdStopped_stopHoldOf i n

@[simp] theorem slot_stopHoldOf_self : (s.stopHoldOf i).slot i = { s.slot i with hold := none } := by
  cases h : (s.slot i).hold with
  | none => rw [stopHoldOf_none h, ← h]
  | some x => rw [stopHoldOf_some (by simp [h]), slot_stopHolds, if_pos (by simp)]

@[simp] theorem slot_stopHoldOf_ne {i j : SlotIx} (hj : j ≠ i) : (s.stopHoldOf i).slot j = s.slot j := by
  unfold stopHoldOf
  split
  · rw [slot_stopHolds, if_neg (by simpa using hj)]
  · rfl

/-- The stop of a hold reaches load records and slots alone. -/
theorem stopHoldOf_frame : s.stopHoldOf i = { s with
    loads := (s.stopHoldOf i).loads
    link := { s.link with slots := (s.stopHoldOf i).link.slots } } := by
  unfold stopHoldOf
  split <;> rfl

end State

/-! ## A valid Reply before its request is carried out (R145 to R147) -/

/-- A report that changes nothing of the detail. -/
theorem Attention.reportStation_id (a : Attention) (i : SlotIx) : a.reportStation i (fun d => d) = a := by
  unfold Attention.reportStation
  rw [show a.station.modify i (fun d => d) = a.station from
    Table.ext_get fun j => by simp [Table.get_modify]]

theorem Table.modify_eq_set {n : Nat} {α : Type} (t : Table n α) (i : Fin n) (f : α → α) :
    t.modify i f = t.set i (f (t.get i)) := by
  refine Table.ext_get fun j => ?_
  by_cases hj : j = i
  · subst hj
    simp
  · simp [hj]

theorem Table.modify_modify {n : Nat} {α : Type} (t : Table n α) (i : Fin n) (f g : α → α) :
    (t.modify i f).modify i g = t.modify i fun x => g (f x) := by
  refine Table.ext_get fun j => ?_
  by_cases hj : j = i
  · subst hj
    simp
  · simp [hj]

namespace State

variable {s v : State} {t : Nat} {q : Poll} {x : StationSlot}

/-- The poll `q` has ended with a valid Reply of its slot, which has become `x`, and the slot is reported
where it was OFFLINE. The next slot is not yet chosen. -/
def served (s : State) (t : Nat) (q : Poll) (x : StationSlot) : State :=
  { s with
    now := max s.now t
    link := { s.link with
      poll := none
      nextPollAt := max s.now t + 200
      slots := s.link.slots.set q.slot x }
    attention := s.attention.reportStation q.slot fun d =>
      if (s.slot q.slot).state = .offline then { d with online := true } else d }

@[simp] theorem slot_served_self : (s.served t q x).slot q.slot = x := Table.get_set_self _ _ _

theorem slot_served_ne {j : SlotIx} (hj : j ≠ q.slot) : (s.served t q x).slot j = s.slot j :=
  Table.get_set_ne _ hj _

@[simp] theorem load_served (n : LoadIx) : (s.served t q x).load n = s.load n := rfl

theorem modifySlot_served (f : StationSlot → StationSlot) :
    (s.served t q x).modifySlot q.slot f = s.served t q (f x) := by
  simp only [served, modifySlot, Table.set, Table.modify_modify]

/-- Answering the polled slot, which is in use, makes it ONLINE with no failure (R147). -/
theorem Awaits.answer_eq (h : s.Awaits t q) :
    State.answer { s.at t with
      link := { s.link with poll := none, nextPollAt := max s.now t + 200 } } q.slot =
      s.served t q { s.slot q.slot with state := .online, failCount := 0 } := by
  obtain ⟨-, -, -, -, -, -, huse⟩ := h
  unfold State.answer
  by_cases hoff : (s.slot q.slot).state = .offline
  · rw [if_pos (by exact hoff)]
    simp only [served, modifySlot, hoff, if_true, Table.modify_eq_set]
    rfl
  · have hon : (s.slot q.slot).state = .online := by
      cases hx : (s.slot q.slot).state with
      | empty => exact absurd hx huse
      | offline => exact absurd hx hoff
      | online => rfl
    rw [if_neg (by exact hoff)]
    simp only [served, modifySlot, hoff, if_false, Attention.reportStation_id, Table.modify_eq_set,
      ← hon]
    rfl

/-- A new request that is not refused is carried out on the part with the polled slot judged (R149, R150). -/
theorem Awaits.accept (h : s.Awaits t q) {frame : List Byte} {b : Bool}
    (hnew : (s.slot q.slot).lastSeq ≠ some b) {r : Request}
    (hr : parseReply q.address frame = some r) {handle : Request → Option (SlotIx → State → State)}
    {refusal : SlotIx → State → Option Reason} {carryOut : SlotIx → State → State}
    (hf : handle r = some fun i v => v.judge i b (refusal i v) (carryOut i))
    (hok : ∀ y, y.station = (s.slot q.slot).station → refusal q.slot (s.served t q y) = none) :
    s.takes t (fun v => v.takeReply frame handle) = .next
      (carryOut q.slot (s.served t q ((s.slot q.slot).judged b .accepted))).chooseNext := by
  rw [takes_high h.1, h.takeReply hr hf, h.answer_eq,
    hok { s.slot q.slot with state := .online, failCount := 0 } rfl, judge_accepted (by simpa using hnew),
    modifySlot_served]
  rfl

/-- A request that has changed only load records and slots has served the station, once the next slot is
chosen (R146). -/
theorem serves_chooseNext {y : StationSlot} (hself : v.slot q.slot = y)
    (hother : ∀ j, j ≠ q.slot → v.slot j = s.slot j)
    (hframe : v = { s.served t q x with
      loads := v.loads, link := { (s.served t q x).link with slots := v.link.slots } }) :
    s.Serves v.chooseNext t q y id := by
  have hslot (j : SlotIx) : v.chooseNext.slot j = v.slot j := by simp [slot]
  have hlink : v.link = { s.link with
      poll := none, nextPollAt := max s.now t + 200, slots := v.chooseNext.link.slots } := by
    rw [chooseNext_link, StationLink.chooseNext_slots]
    exact congrArg State.link hframe
  refine ⟨(hslot _).trans hself, fun j hj => (hslot j).trans (hother j hj), ?_, ?_, ?_⟩
  · exact congrArg State.attention hframe
  · rw [← hlink]
    exact v.link.chooses_chooseNext
  · exact congrArg (fun w : State => { w with
      loads := v.loads, link := v.chooseNext.link, attention := v.chooseNext.attention }) hframe

end State

/-! ## HOLD_EXPIRY and HOLD_STOP -/

theorem StationSlot.allowed_congr {x y : StationSlot} (h : x.station = y.station) :
    x.allowed = y.allowed := by
  simp only [StationSlot.allowed, h]

/-- A zone request outside inhibit, on a zone the station is allowed, is not refused (R150). -/
theorem State.refuseZone_served {s : State} {t : Nat} {q : Poll} {z : Zone}
    (hi : s.firing.inhibit = false) (hz : hasZone (s.slot q.slot).allowed z = true) (y : StationSlot)
    (hy : y.station = (s.slot q.slot).station) : (s.served t q y).refuseZone q.slot z = none := by
  have hinhibit : (s.served t q y).firing.inhibit = false := hi
  simp [State.refuseZone, hinhibit, StationSlot.allowed_congr hy, hz]

theorem exec_holdExpiry_due {s : State} {t : Nat} {i : SlotIx} {h : Hold} (hr : s.rstLow = false)
    (hh : (s.slot i).hold = some h) (hdue : h.expiry ≤ max s.now t) :
    exec (.holdExpiry t i) s = .next { (s.at t).stopHoldOf i with
      attention := s.attention.reportStation i fun d => { d with holdExpired := true } } := by
  rw [show exec (.holdExpiry t i) s = execHoldExpiry t i s from rfl, execHoldExpiry,
    State.takes_high hr]
  simp only [State.at_slot, hh, State.at_now, hdue, if_true]
  rw [State.stopHoldOf_some (by simp [hh])]
  rfl

/-- Settles O33. -/
theorem expiryAndHoldStopStopHold : Obligations.ExpiryAndHoldStopStopHold := by
  refine ⟨fun s t i h hr hh hdue => ?_, fun s t q f b z h hnew hi hz hp => ?_⟩
  · refine ⟨_, exec_holdExpiry_due hr hh hdue, fun n => ?_, (s.at t).slot_stopHoldOf_self i,
      fun j hj => (s.at t).slot_stopHoldOf_ne hj, ?_⟩
    · exact (s.at t).holdStopped_stopHoldOf_some (i := i) (by simp [hh]) n
    · exact congrArg (fun w : State => { w with
        attention := s.attention.reportStation i fun d => { d with holdExpired := true } })
        ((s.at t).stopHoldOf_frame i)
  · intro x
    let w := s.served t q (x.judged b .accepted)
    have hhold : (w.slot q.slot).hold = x.hold := by simp [w, StationSlot.judged]
    have hexec : exec (.holdStop t f) s = .next (w.endHold q.slot z).chooseNext :=
      h.accept hnew hp (handle := Request.takeHoldStop) rfl (State.refuseZone_served hi hz)
    refine ⟨_, hexec, ?_, ?_⟩
    · rintro ⟨y, hy, rfl⟩
      have hend : w.endHold q.slot y.zone = w.stopHoldOf q.slot := by simp [State.endHold, hhold, hy]
      rw [hend]
      refine ⟨State.serves_chooseNext (by simp [w]) (fun j hj => ?_) (w.stopHoldOf_frame q.slot),
        fun n => ?_⟩
      · rw [State.slot_stopHoldOf_ne _ hj, State.slot_served_ne hj]
      · exact w.holdStopped_stopHoldOf_some (by rw [hhold, hy]; rfl) n
    · intro hnone
      have hend : w.endHold q.slot z = w := by
        refine if_neg fun hzone => ?_
        rw [hhold] at hzone
        obtain ⟨y, hy, hyz⟩ := Option.map_eq_some_iff.1 hzone
        exact hnone y hy hyz
      rw [hend]
      exact ⟨State.serves_chooseNext (x := x.judged b .accepted) State.slot_served_self
        (fun j hj => State.slot_served_ne hj) rfl, rfl⟩

end Sys2Proof.Machine
end

section
/-!
SUPPORT. The requests that claim levels: RECALL, OFF, RAISE_START and LOWER_START.
-/

namespace Sys2Proof.Machine

/-! ## The loads a request reaches -/

/-- Two zone sets meet where a zone is in both. -/
theorem zones_meet_iff {a b : ZoneSet} :
    (a &&& b) ≠ 0 ↔ ∃ z, hasZone a z = true ∧ hasZone b z = true := by
  rw [ne_eq, BitVec.eq_of_getLsbD_eq_iff]
  simp only [hasZone, Fin.exists_iff, not_forall, BitVec.getLsbD_and, BitVec.ofNat_eq_ofNat,
    BitVec.getLsbD_zero, Bool.not_eq_false, Bool.and_eq_true]

namespace Record

variable {r : Record}

/-- Eligible for a request on a zone, in the terms of R152. -/
theorem eligible_iff {z : Zone} : r.eligible z = true ↔ ∃ c, r.Reached c z := by
  unfold eligible Reached
  cases r.config with
  | none => simp
  | some c => simp [isActive, hasZone, and_assoc]

/-- Reached by a recall of a station, in the terms of R134. -/
theorem recallable_station_iff {allowed : ZoneSet} : r.recallable (.station allowed) = true ↔
    ∃ c, r.config = some c ∧ r.state = .active ∧
      (∃ z, hasZone c.zones z = true ∧ hasZone allowed z = true) ∧ r.stationLock = false := by
  unfold recallable
  cases r.config with
  | none => simp
  | some c => simp [isActive, ← zones_meet_iff, and_assoc]

end Record

/-! ## RECALL and OFF -/

/-- In a list that names no load twice an entry is found by its load. -/
theorem find_entry_of_mem {es : List SceneEntry} (hnodup : (es.map (·.load)).Nodup) {e : SceneEntry}
    (he : e ∈ es) : es.find? (fun x => x.load == e.load) = some e := by
  cases hfind : es.find? fun x => x.load == e.load with
  | none => exact absurd (beq_self_eq_true e.load) (List.find?_eq_none.1 hfind e he)
  | some x =>
    have hload : x.load = e.load := by simpa using List.find?_some hfind
    rw [List.inj_on_of_nodup_map hnodup (List.mem_of_find?_eq_some hfind) he hload]

namespace State

variable (s : State) {n : SceneIx} {es : List SceneEntry} {fade : Nat} {caller : Caller}

/-- A recall claims the level of each entry whose load it applies (R131). -/
theorem load_recallScene_of_mem (hnodup : (es.map (·.load)).Nodup) {e : SceneEntry} (he : e ∈ es)
    (hr : (s.load e.load).recallable caller = true) : (s.recallScene n es fade caller).load e.load =
      (s.load e.load).claim e.level fade (s.halfPeriodOf (s.load e.load)) (.scene n) := by
  unfold recallScene
  rw [load_mapLoads]
  simp only [find_entry_of_mem hnodup he, hr, if_true]

/-- A recall keeps the record of a load it does not apply. -/
theorem load_recallScene_of_not {m : LoadIx}
    (h : ¬ ((s.load m).recallable caller = true ∧ ∃ e ∈ es, e.load = m)) :
    (s.recallScene n es fade caller).load m = s.load m := by
  unfold recallScene
  rw [load_mapLoads]
  cases hfind : es.find? fun e => e.load == m with
  | none => rfl
  | some e =>
    have hload : e.load = m := by simpa using List.find?_some hfind
    exact if_neg fun hr => h ⟨hr, e, List.mem_of_find?_eq_some hfind, hload⟩

theorem load_zoneOff (i : SlotIx) (z : Zone) (m : LoadIx) : (s.zoneOff i z).load m =
    if (s.load m).eligible z then
      (s.load m).claim 0 s.link.offFade (s.halfPeriodOf (s.load m)) (.station i)
    else s.load m := load_mapLoads s _ m

/-- A change of load records alone after the Reply is judged serves the station. -/
theorem serves_mapLoads (t : Nat) (q : Poll) (y : StationSlot) (f : LoadIx → Record → Record) :
    s.Serves ((s.served t q y).mapLoads f).chooseNext t q y id :=
  serves_chooseNext (x := y) slot_served_self (fun _ hj => slot_served_ne hj) rfl

/-- Outside inhibit a recall of a defined scene is not refused (R150). -/
theorem refuseRecall_served {s : State} {t : Nat} {q : Poll} {c : Scene} (hi : s.firing.inhibit = false)
    (hc : s.scenes.scenes.get n = some c) (y : StationSlot) :
    (s.served t q y).refuseRecall n = none := by
  simp [refuseRecall, served, hi, hc]

end State

/-- Settles O37. -/
theorem acceptedRecallAndOffClaimLevels : Obligations.AcceptedRecallAndOffClaimLevels := by
  intro s t q f b h hnew hi x
  let w := s.served t q (x.judged b .accepted)
  refine ⟨fun n c hp hc hnodup => ?_, fun z hp hz => ?_⟩
  · intro reached
    have hexec : exec (.recall t f) s = .next (w.stationRecall q.slot n).chooseNext :=
      h.accept hnew hp (handle := Request.takeRecall) rfl fun y _ => State.refuseRecall_served hi hc y
    have hallowed : (w.slot q.slot).allowed = x.allowed :=
      StationSlot.allowed_congr (by rw [State.slot_served_self]; rfl)
    have hrecall : w.stationRecall q.slot n = w.recallScene n c.entries c.fade (.station x.allowed) := by
      have hc' : w.scenes.scenes.get n = some c := hc
      simp only [State.stationRecall, hc', hallowed]
    rw [hrecall] at hexec
    refine ⟨_, hexec, s.serves_mapLoads t q _ _, fun e he hreached => ?_, fun m hm => ?_⟩
    · rw [← Record.claim_eq_claimed]
      exact w.load_recallScene_of_mem hnodup he (Record.recallable_station_iff.2 hreached)
    · exact w.load_recallScene_of_not fun hr => hm ⟨Record.recallable_station_iff.1 hr.1, hr.2⟩
  · have hexec : exec (.off t f) s = .next (w.zoneOff q.slot z).chooseNext :=
      h.accept hnew hp (handle := Request.takeOff) rfl (State.refuseZone_served hi hz)
    refine ⟨_, hexec, s.serves_mapLoads t q _ _, fun n g hreached => ?_, fun n hn => ?_⟩
    · rw [← Record.claim_eq_claimed]
      exact (w.load_zoneOff q.slot z n).trans (if_pos (Record.eligible_iff.2 ⟨g, hreached⟩))
    · refine (w.load_zoneOff q.slot z n).trans (if_neg fun he => ?_)
      obtain ⟨g, hreached⟩ := Record.eligible_iff.1 he
      exact hn g hreached

/-! ## RAISE_START and LOWER_START -/

theorem LoadConfig.limit_eq (c : LoadConfig) (d : Direction) :
    c.limit d = if d = .raise then c.maxLevel else c.minLevel := by
  cases d <;> rfl

/-- A LOWER hold passes by a load at level 0 (R63). -/
theorem Record.claimHold_passes {r : Record} {d : Direction} (h : d = .lower ∧ r.currentLevel = 0)
    (step : Nat) (slot : SlotIx) : r.claimHold d step slot = r := by
  unfold Record.claimHold
  split
  · rfl
  · exact if_pos h

namespace State

variable {s : State} {i : SlotIx} {z : Zone} {d : Direction}

/-- A matching hold is kept alive and no record is touched (R153). -/
theorem loads_startHold_keepAlive {old : Nat} (h : (s.slot i).hold = some ⟨z, d, old⟩) :
    (s.startHold i z d).loads = s.loads := by
  simp [startHold, h]

/-- Otherwise the old hold is stopped, and the new one claims the eligible loads (R153). -/
theorem load_startHold_new (h : ∀ old, (s.slot i).hold ≠ some ⟨z, d, old⟩) (n : LoadIx) :
    (s.startHold i z d).load n =
      if ((s.stopHoldOf i).load n).eligible z then
        ((s.stopHoldOf i).load n).claimHold d s.link.holdStep i
      else (s.stopHoldOf i).load n := by
  unfold startHold
  dsimp only
  rw [if_neg, load_mapLoads, load_modifySlot]
  intro hmatch
  obtain ⟨⟨z', d', old⟩, hold, hpair⟩ := Option.map_eq_some_iff.1 hmatch
  obtain ⟨rfl, rfl⟩ := Prod.mk.inj hpair
  exact h old hold

/-- The slot's hold is the new one in both cases, with a new expiry (R158). -/
theorem slot_startHold_self : (s.startHold i z d).slot i =
    { s.slot i with hold := some ⟨z, d, s.holdExpiryTime⟩ } := by
  unfold startHold
  dsimp only
  split
  · rw [slot_modifySlot_self]
  · rw [slot_mapLoads, slot_modifySlot_self, slot_stopHoldOf_self]

theorem slot_startHold_ne {j : SlotIx} (hj : j ≠ i) : (s.startHold i z d).slot j = s.slot j := by
  unfold startHold
  dsimp only
  split
  · rw [slot_modifySlot_ne _ hj]
  · rw [slot_mapLoads, slot_modifySlot_ne _ hj, slot_stopHoldOf_ne _ hj]

/-- A request that begins or keeps a hold reaches load records and slots alone. -/
theorem startHold_frame : s.startHold i z d = { s with
    loads := (s.startHold i z d).loads
    link := { s.link with slots := (s.startHold i z d).link.slots } } := by
  unfold startHold stopHoldOf
  dsimp only
  split
  · rfl
  · split <;> rfl

end State

/-- Settles O38: the record between the stop of the old hold and the new claim is that of the part whose
old hold is stopped. -/
theorem acceptedHoldStartsClaimOrKeepAlive : Obligations.AcceptedHoldStartsClaimOrKeepAlive := by
  intro s t q f b z d h hnew hi hz hp x expiry
  let w := s.served t q (x.judged b .accepted)
  have hslot : w.slot q.slot = x.judged b .accepted := State.slot_served_self
  have hhold : (w.slot q.slot).hold = x.hold := by rw [hslot]; rfl
  have hexec : exec (match (generalizing := false) d with
      | .raise => .raiseStart t f
      | .lower => .lowerStart t f) s = .next (w.startHold q.slot z d).chooseNext := by
    cases d with
    | raise => exact h.accept hnew hp (handle := Request.takeRaise) rfl (State.refuseZone_served hi hz)
    | lower => exact h.accept hnew hp (handle := Request.takeLower) rfl (State.refuseZone_served hi hz)
  have hserves : s.Serves (w.startHold q.slot z d).chooseNext t q
      { x.judged b .accepted with hold := some ⟨z, d, expiry⟩ } id :=
    State.serves_chooseNext (State.slot_startHold_self.trans (by rw [hslot]; rfl))
      (fun j hj => (State.slot_startHold_ne hj).trans (State.slot_served_ne hj)) State.startHold_frame
  refine ⟨_, hexec, hserves, fun ⟨old, hold⟩ => ?_, fun hnone n => ?_⟩
  · exact State.loads_startHold_keepAlive (hhold.trans hold)
  · have hload := State.load_startHold_new (fun old => hhold ▸ hnone old) n
    have hstop := w.holdStopped_stopHoldOf q.slot n
    rw [hhold] at hstop
    refine ⟨(w.stopHoldOf q.slot).load n, hstop, fun hpass => hload.trans ?_,
      fun c hreached hmoves => hload.trans ?_⟩
    · split
      · rename_i heligible
        obtain ⟨c, hreached⟩ := Record.eligible_iff.1 heligible
        exact Record.claimHold_passes (hpass.resolve_left fun hnever => hnever c hreached) _ _
      · rfl
    · obtain ⟨hc, -⟩ := id hreached
      rw [if_pos (Record.eligible_iff.2 ⟨c, hreached⟩), Record.claimHold_eq _ hc, if_neg hmoves,
        LoadConfig.limit_eq]
      rfl

end Sys2Proof.Machine
end

section
/-!
SUPPORT. The Firing Scheduler by itself: the order of its lists, exactly what a slot grant and the arbiter
do, and what its operations keep of the slot bound, of the order of the waiting list, and of the loads that
may be driven.
-/

namespace Sys2Proof.Machine

/-! ## Insertion in order -/

/-- Order of the firing lists and of the waiting list (R68, R77): by time, then by load index. -/
def KeyLe (x y : Nat × Nat) : Prop := x.1 < y.1 ∨ (x.1 = y.1 ∧ x.2 ≤ y.2)

theorem precedes_iff {x y : Nat × Nat} : precedes x y = true ↔ ¬ KeyLe y x := by
  simp only [precedes, KeyLe, Bool.or_eq_true, Bool.and_eq_true, decide_eq_true_eq, beq_iff_eq]
  omega

theorem KeyLe.trans {x y z : Nat × Nat} (h : KeyLe x y) (h' : KeyLe y z) : KeyLe x z := by
  unfold KeyLe at *
  omega

theorem KeyLe.of_precedes {x y : Nat × Nat} (h : precedes x y = true) : KeyLe x y := by
  rw [precedes_iff] at h
  unfold KeyLe at *
  omega

section insertBy

variable {α : Type} (key : α → Nat × Nat)

theorem insertBy_perm (x : α) (xs : List α) : (insertBy key x xs).Perm (x :: xs) := by
  induction xs with
  | nil => exact .refl _
  | cons y ys ih =>
    rw [insertBy]
    split
    · exact .refl _
    · exact (ih.cons y).trans (.swap x y ys)

theorem foldr_insertBy_perm (xs : List α) : (xs.foldr (insertBy key) []).Perm xs := by
  induction xs with
  | nil => exact .refl _
  | cons y ys ih => exact (insertBy_perm key y _).trans (ih.cons y)

/-- The list is in order. -/
def Ordered (xs : List α) : Prop := xs.Pairwise fun x y => KeyLe (key x) (key y)

variable {key}

theorem Ordered.insertBy {xs : List α} (h : Ordered key xs) (x : α) : Ordered key (insertBy key x xs) := by
  induction xs with
  | nil => exact List.pairwise_singleton _ _
  | cons y ys ih =>
    obtain ⟨hy, hys⟩ := List.pairwise_cons.1 h
    rw [Machine.insertBy]
    split
    · rename_i hlt
      have hxy := KeyLe.of_precedes hlt
      refine .cons (fun z hz => ?_) h
      rcases List.mem_cons.1 hz with rfl | hz
      · exact hxy
      · exact hxy.trans (hy z hz)
    · rename_i hnlt
      refine .cons (fun z hz => ?_) (ih hys)
      rcases (mem_insertBy key x z ys).1 hz with rfl | hz
      · exact not_not.1 (mt precedes_iff.2 hnlt)
      · exact hy z hz

variable (key)

theorem ordered_foldr_insertBy (xs : List α) : Ordered key (xs.foldr (Machine.insertBy key) []) := by
  induction xs with
  | nil => exact List.Pairwise.nil
  | cons y ys ih => exact ih.insertBy y

end insertBy

theorem State.waitingOk_iff {s : State} : s.WaitingOk ↔ Ordered PulseEntry.key s.firing.waiting := Iff.rfl

/-! ## The slot grant, exactly (R79) -/

/-- The waiting entries that a grant starts: those within their latest start, in list order, one for each
free slot. -/
def grantable (now : Nat) (slots : List SlotPulse) (waiting : List PulseEntry) : List PulseEntry :=
  (waiting.filter fun e => now ≤ e.latestStart).take (Config.slotCount - slots.length)

section grantSlots

variable {now : Nat} {slots : List SlotPulse} {waiting : List PulseEntry}

theorem grantSlots_full (h : Config.slotCount ≤ slots.length) :
    grantSlots now slots waiting = (slots, waiting) := by
  induction waiting with
  | nil => rfl
  | cons e es ih =>
    rw [grantSlots, if_neg (by omega), ih]

theorem grantable_full (h : Config.slotCount ≤ slots.length) : grantable now slots waiting = [] := by
  rw [grantable, Nat.sub_eq_zero_of_le h, List.take_zero]

theorem grantable_cons {e : PulseEntry} (h : slots.length < Config.slotCount) (he : now ≤ e.latestStart) :
    grantable now slots (e :: waiting) = e :: grantable now (slots ++ [e.start now]) waiting := by
  have hfree : Config.slotCount - slots.length =
      (Config.slotCount - (slots ++ [e.start now]).length) + 1 := by
    simp only [List.length_append, List.length_singleton]
    omega
  rw [grantable, grantable, List.filter_cons_of_pos (by simpa using he), hfree, List.take_succ_cons]

theorem grantable_cons_late {e : PulseEntry} (he : ¬ now ≤ e.latestStart) :
    grantable now slots (e :: waiting) = grantable now slots waiting := by
  rw [grantable, grantable, List.filter_cons_of_neg (by simpa using he)]

/-- A grant starts the grantable entries and leaves the others waiting, in their order. -/
theorem grantSlots_exact (now : Nat) (slots : List SlotPulse) (waiting : List PulseEntry) :
    (grantSlots now slots waiting).1 = slots ++ (grantable now slots waiting).map (·.start now) ∧
    (grantSlots now slots waiting).2.Sublist waiting ∧
    (grantable now slots waiting ++ (grantSlots now slots waiting).2).Perm waiting := by
  induction waiting generalizing slots with
  | nil => simp [grantSlots, grantable]
  | cons e es ih =>
    by_cases hfull : Config.slotCount ≤ slots.length
    · rw [grantSlots_full hfull, grantable_full hfull]
      simp
    · by_cases he : now ≤ e.latestStart
      · obtain ⟨hslots, hsub, hperm⟩ := ih (slots ++ [e.start now])
        rw [grantSlots, if_pos ⟨by omega, he⟩, grantable_cons (by omega) he, hslots]
        exact ⟨by simp, hsub.cons e, hperm.cons e⟩
      · obtain ⟨hslots, hsub, hperm⟩ := ih slots
        rw [grantSlots, if_neg fun h => he h.2, grantable_cons_late he]
        exact ⟨hslots, hsub.cons_cons e, List.perm_middle.trans (hperm.cons e)⟩

end grantSlots

namespace Firing

variable {f g h : Firing} {now : Nat}

/-! ## The entries that fall due (R68, R77, R78) -/

theorem mem_entries {e : FiringEntry} : e ∈ f.entries ↔ ∃ l, e ∈ f.lists.get l := by
  simp only [entries, List.mem_append]
  constructor
  · rintro ((h | h) | h)
    · exact ⟨.a, h⟩
    · exact ⟨.b, h⟩
    · exact ⟨.c, h⟩
  · rintro ⟨l, h⟩
    cases l
    · exact .inl (.inl h)
    · exact .inl (.inr h)
    · exact .inr h

theorem duePulse_eq_some {x : FiringEntry} {e : PulseEntry} :
    x.duePulse now = some e ↔ x = .pulse e ∧ e.due ≤ now := by
  cases x with
  | held y => simp [FiringEntry.duePulse]
  | pulse y =>
    simp only [FiringEntry.duePulse, Option.ite_none_right_eq_some, Option.some.injEq,
      FiringEntry.pulse.injEq]
    constructor
    · rintro ⟨hdue, rfl⟩
      exact ⟨rfl, hdue⟩
    · rintro ⟨rfl, hdue⟩
      exact ⟨hdue, rfl⟩

theorem dueHeld_eq_some {x : FiringEntry} {n : LoadIx} {e : HeldEntry} :
    x.dueHeld now n = some e ↔ x = .held e ∧ e.load = n ∧ e.start ≤ now := by
  cases x with
  | pulse y => simp [FiringEntry.dueHeld]
  | held y =>
    simp only [FiringEntry.dueHeld, Option.ite_none_right_eq_some, Option.some.injEq,
      FiringEntry.held.injEq]
    constructor
    · rintro ⟨h, rfl⟩
      exact ⟨rfl, h⟩
    · rintro ⟨rfl, h⟩
      exact ⟨h, rfl⟩

theorem mem_duePulses {e : PulseEntry} :
    e ∈ f.duePulses now ↔ e.due ≤ now ∧ ∃ l, .pulse e ∈ f.lists.get l := by
  simp only [duePulses, mem_foldr_insertBy, List.mem_filterMap, duePulse_eq_some, ← mem_entries]
  constructor
  · rintro ⟨x, hx, rfl, hdue⟩
    exact ⟨hdue, hx⟩
  · rintro ⟨hdue, hx⟩
    exact ⟨_, hx, rfl, hdue⟩

theorem ordered_duePulses (f : Firing) (now : Nat) : Ordered PulseEntry.key (f.duePulses now) :=
  ordered_foldr_insertBy _ _

/-- The due pulses gone from the lists, before they reach the arbiter (R68). -/
def unlistDue (f : Firing) (now : Nat) : Firing :=
  { f with lists := f.lists.map fun _ es => es.filter fun e => (e.duePulse now).isNone }

theorem takeDue_eq (f : Firing) (now : Nat) :
    f.takeDue now = (f.duePulses now).foldl (fun g e => g.arbitrate now e) (f.unlistDue now) := rfl

theorem mem_unlistDue_lists {l : Line} {x : FiringEntry} : x ∈ (f.unlistDue now).lists.get l ↔
    x ∈ f.lists.get l ∧ ∀ e, x = .pulse e → now < e.due := by
  simp only [unlistDue, PerLine.get_map, List.mem_filter, Option.isNone_iff_eq_none,
    Option.eq_none_iff_forall_ne_some, ne_eq, duePulse_eq_some, not_and, not_le]

/-- Pulses that go to the arbiter one by one start in the free slots, in order, and the rest join the
waiting list (R77). -/
theorem foldl_arbitrate (now : Nat) (due : List PulseEntry) (f : Firing) :
    due.foldl (fun g e => g.arbitrate now e) f = { f with
      slots := f.slots ++ (due.take (Config.slotCount - f.slots.length)).map (·.start now)
      waiting := (due.drop (Config.slotCount - f.slots.length)).foldl
        (fun w e => insertBy PulseEntry.key e w) f.waiting } := by
  induction due generalizing f with
  | nil => simp
  | cons e es ih =>
    rw [List.foldl_cons, ih]
    rcases f.arbitrate_cases now e with ⟨hlt, he⟩ | ⟨hle, he⟩ <;> rw [he]
    · obtain ⟨k, hk⟩ : ∃ k, Config.slotCount - f.slots.length = k + 1 :=
        ⟨Config.slotCount - f.slots.length - 1, by omega⟩
      have hk' : Config.slotCount - (f.slots.length + 1) = k := by omega
      simp [hk, hk']
    · simp [Nat.sub_eq_zero_of_le hle]

/-- What becomes of the due pulses, exactly. -/
theorem takeDue_exact (f : Firing) (now : Nat) : f.takeDue now = { f.unlistDue now with
    slots := f.slots ++
      ((f.duePulses now).take (Config.slotCount - f.slots.length)).map (·.start now)
    waiting := ((f.duePulses now).drop (Config.slotCount - f.slots.length)).foldl
      (fun w e => insertBy PulseEntry.key e w) f.waiting } := by
  rw [takeDue_eq, foldl_arbitrate]
  rfl

theorem foldl_insertBy_perm (waiting xs : List PulseEntry) :
    (xs.foldl (fun w e => insertBy PulseEntry.key e w) waiting).Perm (waiting ++ xs) := by
  induction xs generalizing waiting with
  | nil => simp
  | cons e es ih =>
    exact ((ih _).trans ((insertBy_perm _ e waiting).append_right es)).trans List.perm_middle.symm

theorem ordered_foldl_insertBy {waiting : List PulseEntry} (h : Ordered PulseEntry.key waiting)
    (xs : List PulseEntry) :
    Ordered PulseEntry.key (xs.foldl (fun w e => insertBy PulseEntry.key e w) waiting) := by
  induction xs generalizing waiting with
  | nil => exact h
  | cons e es ih => exact ih (h.insertBy e)

/-! ## The slot bound and the order of the waiting list (R76, R77) -/

/-- From `f` to `g` the slot bound and the order of the waiting list are kept. -/
structure Keeps (f g : Firing) : Prop where
  slots : f.slots.length ≤ Config.slotCount → g.slots.length ≤ Config.slotCount
  waiting : Ordered PulseEntry.key f.waiting → Ordered PulseEntry.key g.waiting

theorem Keeps.refl (f : Firing) : f.Keeps f := ⟨id, id⟩

theorem Keeps.trans (hf : f.Keeps g) (hg : g.Keeps h) : f.Keeps h :=
  ⟨fun x => hg.slots (hf.slots x), fun x => hg.waiting (hf.waiting x)⟩

/-- No slot is taken and no entry is moved. -/
theorem Keeps.of_sublist (hs : g.slots.length ≤ f.slots.length) (hw : g.waiting.Sublist f.waiting) :
    f.Keeps g := ⟨hs.trans, List.Pairwise.sublist hw⟩

theorem keeps_remove (p : LoadIx → Bool) : f.Keeps (f.remove p) :=
  .of_sublist (f.remove_slots_length p) List.filter_sublist

theorem keeps_grant (now : Nat) : f.Keeps (f.grant now) :=
  ⟨f.grant_slots_length now, List.Pairwise.sublist (grantSlots_exact now f.slots f.waiting).2.1⟩

theorem keeps_cut (p : LoadIx → Bool) (now : Nat) : f.Keeps ((f.remove p).grant now) :=
  (keeps_remove p).trans (keeps_grant now)

theorem keeps_reset (inhibit : Bool) : f.Keeps (.reset inhibit) :=
  ⟨fun _ => Nat.zero_le _, fun _ => .nil⟩

theorem keeps_takeDue (now : Nat) : f.Keeps (f.takeDue now) := by
  rw [takeDue_exact]
  refine ⟨fun hle => ?_, fun hw => ordered_foldl_insertBy hw _⟩
  have htake := List.length_take_le (Config.slotCount - f.slots.length) (f.duePulses now)
  simp only [List.length_append, List.length_map]
  omega

/-! ## The loads that may be driven (R82) -/

/-- Whatever holds a slot, waits, is listed or is driven in `f` is of a load and a line of `D`. -/
structure Over (f : Firing) (D : LoadIx → Line → Prop) : Prop where
  slots : ∀ x ∈ f.slots, D x.load x.line
  waiting : ∀ e ∈ f.waiting, D e.load e.line
  lists : ∀ l, ∀ x ∈ f.lists.get l, D x.load l ∧ ∀ e, x = .pulse e → e.line = l
  held : ∀ h ∈ f.held, ∃ l, D h.load l

namespace Over

variable {D E : LoadIx → Line → Prop}

theorem mono (h : f.Over D) (hD : ∀ n l, D n l → E n l) : f.Over E where
  slots x hx := hD _ _ (h.slots x hx)
  waiting e he := hD _ _ (h.waiting e he)
  lists l x hx := ⟨hD _ _ (h.lists l x hx).1, (h.lists l x hx).2⟩
  held x hx := (h.held x hx).imp fun l => hD _ l

theorem reset (inhibit : Bool) : (Firing.reset inhibit).Over D := by
  constructor <;> simp [Firing.reset]

/-- What remains after a removal is not of the removed loads. -/
theorem remove (h : f.Over D) (p : LoadIx → Bool) : (f.remove p).Over fun n l => D n l ∧ p n = false where
  slots x hx := by
    obtain ⟨hx, hp⟩ := (f.mem_remove_slots p).1 hx
    exact ⟨h.slots x hx, hp⟩
  waiting e he := by
    obtain ⟨he, hp⟩ := (f.mem_remove_waiting p).1 he
    exact ⟨h.waiting e he, hp⟩
  lists l x hx := by
    obtain ⟨hx, hp⟩ := (f.mem_remove_lists p).1 hx
    exact ⟨⟨(h.lists l x hx).1, hp⟩, (h.lists l x hx).2⟩
  held x hx := by
    obtain ⟨hx, hp⟩ := (f.mem_remove_held p).1 hx
    exact (h.held x hx).imp fun l hl => ⟨hl, hp⟩

/-- A grant starts entries that waited. -/
theorem grant (h : f.Over D) (now : Nat) : (f.grant now).Over D where
  slots x hx := by
    rcases f.mem_grant_slots now hx with hx | ⟨e, he, rfl⟩
    · exact h.slots x hx
    · exact h.waiting e he
  waiting e he := h.waiting e (f.mem_grant_waiting now he)
  lists := h.lists
  held := h.held

theorem cut (h : f.Over D) (p : LoadIx → Bool) (now : Nat) :
    ((f.remove p).grant now).Over fun n l => D n l ∧ p n = false :=
  (h.remove p).grant now

theorem arbitrate (h : f.Over D) (now : Nat) {e : PulseEntry} (he : D e.load e.line) :
    (f.arbitrate now e).Over D := by
  rcases f.arbitrate_cases now e with ⟨-, ha⟩ | ⟨-, ha⟩ <;> rw [ha]
  · refine { h with slots := fun x hx => ?_ }
    rcases List.mem_append.1 hx with hx | hx
    · exact h.slots x hx
    · obtain rfl := List.mem_singleton.1 hx
      exact he
  · refine { h with waiting := fun x hx => ?_ }
    rcases (mem_insertBy _ _ _ _).1 hx with rfl | hx
    · exact he
    · exact h.waiting x hx

theorem foldl_arbitrate (now : Nat) {due : List PulseEntry} (hdue : ∀ e ∈ due, D e.load e.line)
    (h : f.Over D) : (due.foldl (fun g e => g.arbitrate now e) f).Over D := by
  induction due generalizing f with
  | nil => exact h
  | cons e es ih =>
    exact ih (fun x hx => hdue x (List.mem_cons_of_mem _ hx)) (h.arbitrate now (hdue e List.mem_cons_self))

/-- The due pulses were listed, each on its own line. -/
theorem takeDue (h : f.Over D) (now : Nat) : (f.takeDue now).Over D := by
  rw [takeDue_eq]
  refine foldl_arbitrate now (fun e he => ?_) { h with
    lists := fun l x hx => h.lists l x (mem_unlistDue_lists.1 hx).1 }
  obtain ⟨-, l, hl⟩ := mem_duePulses.1 he
  obtain ⟨hD, hline⟩ := h.lists l _ hl
  exact hline e rfl ▸ hD

/-- A new list of one line. -/
theorem setList (h : f.Over D) (l : Line) {es : List FiringEntry}
    (hes : ∀ x ∈ es, D x.load l ∧ ∀ e, x = .pulse e → e.line = l) :
    Over { f with lists := f.lists.set l es } D := by
  refine { h with lists := fun m x hx => ?_ }
  dsimp only at hx
  by_cases hm : m = l
  · subst hm
    rw [PerLine.get_set_self] at hx
    exact hes x hx
  · rw [PerLine.get_set_ne _ hm] at hx
    exact h.lists m x hx

theorem list (h : f.Over D) {e : PulseEntry} (he : D e.load e.line) :
    (f.list e.line (.pulse e)).Over D := by
  refine h.setList e.line fun x hx => ?_
  rcases (mem_insertBy _ _ _ _).1 hx with rfl | hx
  · exact ⟨he, fun y hy => by rw [FiringEntry.pulse.inj hy]⟩
  · exact h.lists _ x hx

end Over

end Firing

end Sys2Proof.Machine
end

section
/-!
SUPPORT. What a step keeps of the gate drive: the slot bound, the order of the waiting list, and that
whatever is driven, waits or is listed is of a load that may be driven (`State.FiringOk`). First the
operations, then the commands one by one.
-/

namespace Sys2Proof.Machine

/-! ## Records that go on or off duty -/

/-- From `r` to `v` the record is ACTIVE as before and, where it is, still on its line. -/
structure Record.SameDuty (r v : Record) : Prop where
  active : v.isActive = r.isActive
  line : r.isActive = true → ∀ l, r.onLine l = true → v.onLine l = true

namespace Record

variable {r v : Record}

theorem SameDuty.refl (r : Record) : SameDuty r r := ⟨rfl, fun _ _ h => h⟩

theorem sameDuty_of_eq (hs : v.state = r.state) (hc : v.config = r.config) : SameDuty r v :=
  ⟨by simp only [isActive, hs], fun _ l h => by simpa only [onLine, hc] using h⟩

/-- A record that is ACTIVE neither before nor after. -/
theorem sameDuty_of_idle (hr : r.state ≠ .active) (hv : v.state ≠ .active) : SameDuty r v :=
  ⟨by simp [isActive, hr, hv], fun h => absurd (isActive_iff.1 h) hr⟩

/-- An apply that does not change the line (R115). -/
theorem sameDuty_applyStaged (h : r.changesLine = false) : SameDuty r r.applyStaged :=
  ⟨by simp [isActive], fun _ _ hl => onLine_applyStaged r hl h⟩

theorem isActive_applyStaged : r.applyStaged.isActive = r.isActive := by simp [isActive]

end Record

/-! ## The entries of a boundary (R68, R70 to R74) -/

namespace Boundary

/-- A train whose first pulse is due at `due`. -/
def train (b : Boundary) (n : LoadIx) (c : LoadConfig) (due : Nat) : FiringEntry :=
  .pulse ⟨n, b.line, due, 1, c.pulseWidth, c.pulseCount, b.latestStart c⟩

/-- The entry that the law of its mode gives a load with configuration `c` that is to fire. -/
def Fires (b : Boundary) (n : LoadIx) (r : Record) (c : LoadConfig) (x : FiringEntry) : Prop :=
  (c.mode = .phaseLead ∧
    x = b.train n c (b.time + b.frontGuard + (1000 - r.effective) * b.window c / 1000)) ∨
  (c.mode = .phaseTrail ∧ x = .held ⟨n, b.time + b.frontGuard,
    b.time + b.frontGuard + r.effective * b.heldWindow / 1000⟩) ∨
  (c.mode = .switch ∧ x = b.train n c (b.time + b.frontGuard)) ∨
  (c.mode = .burst ∧ r.burstCycleOn = true ∧ x = b.train n c (b.time + b.frontGuard))

variable {b : Boundary} {n : LoadIx} {r : Record} {c : LoadConfig} {x : FiringEntry}

theorem entry_of_fires (hactive : r.state = .active) (hc : r.config = some c) (hline : c.line = b.line)
    (he : 0 < r.effective) : b.entry n r = some x ↔ b.Fires n r c x := by
  have hfires : (r.isActive && decide (c.line = b.line) && decide (0 < r.effective)) = true := by
    simp [Record.isActive, hactive, hline, he]
  simp only [entry, hc, hfires, if_true, Fires, firstDue, train]
  cases c.mode <;> simp [eq_comm (b := x)]

theorem entry_eq_some : b.entry n r = some x ↔ ∃ c, r.state = .active ∧ r.config = some c ∧
    c.line = b.line ∧ 0 < r.effective ∧ b.Fires n r c x := by
  constructor
  · intro h
    cases hc : r.config with
    | none => simp [entry, hc] at h
    | some c =>
      by_cases hfires : r.state = .active ∧ c.line = b.line ∧ 0 < r.effective
      · obtain ⟨hactive, hline, he⟩ := hfires
        exact ⟨c, hactive, rfl, hline, he, (entry_of_fires hactive hc hline he).1 h⟩
      · have hoff : (r.isActive && decide (c.line = b.line) && decide (0 < r.effective)) = false := by
          simpa [Record.isActive, and_assoc] using hfires
        simp [entry, hc, hoff] at h
  · rintro ⟨c, hactive, hc, hline, he, hfires⟩
    exact (entry_of_fires hactive hc hline he).2 hfires

/-- An entry is of its load, and its pulse of the boundary's line. -/
theorem Fires.load_line (h : b.Fires n r c x) : x.load = n ∧ ∀ e, x = .pulse e → e.line = b.line := by
  rcases h with ⟨-, rfl⟩ | ⟨-, rfl⟩ | ⟨-, rfl⟩ | ⟨-, -, rfl⟩ <;>
    exact ⟨rfl, by rintro e ⟨⟩; try rfl⟩

end Boundary

namespace State

variable {s u v : State} {sound : Prop}

/-! ## The invariant and its parts -/

/-- In inhibit and while RST is low no load is ACTIVE, and inhibit is the level of ALLOFF (R85, R86, R91). -/
structure InhibitOk (s : State) : Prop where
  inhibited : s.firing.inhibit = true → ∀ n, (s.load n).isActive = false
  inReset : s.rstLow = true → ∀ n, (s.load n).isActive = false
  level : s.rstLow = false → s.firing.inhibit = s.allOff

theorem entryOk_iff {l : Line} {x : FiringEntry} :
    s.EntryOk l x ↔ s.Drives x.load l ∧ ∀ e, x = .pulse e → e.line = l := by
  cases x <;> simp [EntryOk, FiringEntry.load]

theorem firingOk_iff : s.FiringOk ↔ s.firing.Over s.Drives ∧ s.InhibitOk := by
  simp only [FiringOk, entryOk_iff]
  constructor
  · rintro ⟨hslots, hwaiting, hlists, hheld, hinhibited, hreset, hlevel⟩
    exact ⟨⟨hslots, hwaiting, hlists, hheld⟩, ⟨hinhibited, hreset, hlevel⟩⟩
  · rintro ⟨⟨hslots, hwaiting, hlists, hheld⟩, ⟨hinhibited, hreset, hlevel⟩⟩
    exact ⟨hslots, hwaiting, hlists, hheld, hinhibited, hreset, hlevel⟩

/-- With no load ACTIVE nothing is driven. -/
theorem not_drives {n : LoadIx} {l : Line} (h : (s.load n).isActive = false) : ¬ s.Drives n l :=
  fun hd => Bool.false_ne_true (h.symm.trans hd.1)

/-- The inputs and inhibit are kept, and no load becomes ACTIVE. -/
theorem InhibitOk.mono (h : s.InhibitOk) (hi : u.firing.inhibit = s.firing.inhibit)
    (hr : u.rstLow = s.rstLow) (ha : u.allOff = s.allOff)
    (hact : ∀ n, (u.load n).isActive = true → (s.load n).isActive = true) : u.InhibitOk := by
  have hoff (hs : ∀ n, (s.load n).isActive = false) (n : LoadIx) : (u.load n).isActive = false := by
    rw [Bool.eq_false_iff]
    exact fun hn => Bool.false_ne_true ((hs n).symm.trans (hact n hn))
  refine ⟨fun hinh => hoff (h.inhibited (hi ▸ hinh)), fun hrst => hoff (h.inReset (hr ▸ hrst)), ?_⟩
  rw [hi, hr, ha]
  exact h.level

theorem drives_mono (hd : ∀ n, (s.load n).SameDuty (u.load n))
    (ht : ∀ l, s.tracks l = true → u.tracks l = true) (n : LoadIx) (l : Line) (h : s.Drives n l) :
    u.Drives n l :=
  ⟨(hd n).active.trans h.1, (hd n).line h.1 l h.2.1, ht l h.2.2⟩

/-- With every load off and nothing driven, only inhibit remains to be judged. -/
theorem firingOk_of_off (hf : u.firing = .reset u.firing.inhibit) (hoff : ∀ n, (u.load n).isActive = false)
    (hlevel : u.rstLow = false → u.firing.inhibit = u.allOff) : u.FiringOk :=
  firingOk_iff.2 ⟨hf ▸ .reset _, ⟨fun _ => hoff, fun _ => hoff, hlevel⟩⟩

/-! ## What is kept from state to state -/

/-- From `s` to `u` the slot bound, the order of the waiting list and, where `sound` holds, the gate-drive
invariant are kept. Without `sound` it is a claim about slots and waiting list alone, which needs none of
the other invariants. -/
structure KeepsGates (sound : Prop) (s u : State) : Prop where
  bound : s.firing.Keeps u.firing
  driven : sound → s.FiringOk → u.FiringOk

theorem KeepsGates.refl (s : State) : KeepsGates sound s s := ⟨.refl _, fun _ => id⟩

theorem KeepsGates.trans (h : KeepsGates sound s u) (h' : KeepsGates sound u v) : KeepsGates sound s v :=
  ⟨h.bound.trans h'.bound, fun hp hs => h'.driven hp (h.driven hp hs)⟩

/-- The Firing Scheduler handles its entries, and every load keeps its duty. -/
theorem KeepsGates.of_firing (hb : s.firing.Keeps u.firing)
    (hover : s.firing.Over s.Drives → u.firing.Over s.Drives)
    (hi : u.firing.inhibit = s.firing.inhibit) (hr : u.rstLow = s.rstLow) (ha : u.allOff = s.allOff)
    (ht : ∀ l, s.tracks l = true → u.tracks l = true) (hd : ∀ n, (s.load n).SameDuty (u.load n)) :
    KeepsGates sound s u := by
  refine ⟨hb, fun _ hs => ?_⟩
  obtain ⟨ho, hin⟩ := firingOk_iff.1 hs
  exact firingOk_iff.2 ⟨(hover ho).mono (drives_mono hd ht),
    hin.mono hi hr ha fun n hn => (hd n).active.symm.trans hn⟩

/-- The Firing Scheduler is left alone, and every load keeps its duty. -/
theorem KeepsGates.of_records (hf : u.firing = s.firing) (hr : u.rstLow = s.rstLow)
    (ha : u.allOff = s.allOff) (ht : ∀ l, s.tracks l = true → u.tracks l = true)
    (hd : ∀ n, (s.load n).SameDuty (u.load n)) : KeepsGates sound s u :=
  .of_firing (hf ▸ .refl _) (fun h => hf ▸ h) (by rw [hf]) hr ha ht hd

/-- Whatever leaves gates, records, trackers and the reset and ALLOFF inputs alone. -/
theorem KeepsGates.frame (hf : u.firing = s.firing) (hl : u.loads = s.loads)
    (ht : u.trackers = s.trackers) (hr : u.rstLow = s.rstLow) (ha : u.allOff = s.allOff) :
    KeepsGates sound s u :=
  .of_records hf hr ha (fun l h => by simpa only [tracks, ht] using h)
    fun n => (load_congr hl n).symm ▸ .refl _

/-- Only entries are handled: records, trackers and inputs stay as they are. -/
theorem KeepsGates.of_entries {f : Firing} (hb : s.firing.Keeps f)
    (hover : ∀ D, s.firing.Over D → f.Over D) (hi : f.inhibit = s.firing.inhibit) :
    KeepsGates sound s { s with firing := f } :=
  .of_firing hb (hover _) hi rfl rfl (fun _ => id) fun _ => .refl _

/-- A cut of the loads of `p`: every other load keeps its duty. -/
theorem KeepsGates.of_cut (p : LoadIx → Bool) {now : Nat} (hf : u.firing = (s.firing.remove p).grant now)
    (hr : u.rstLow = s.rstLow) (ha : u.allOff = s.allOff) (ht : u.trackers = s.trackers)
    (hact : ∀ n, (u.load n).isActive = true → (s.load n).isActive = true)
    (hd : ∀ n, p n = false → (s.load n).SameDuty (u.load n)) : KeepsGates sound s u := by
  refine ⟨hf ▸ Firing.keeps_cut p now, fun _ hs => ?_⟩
  obtain ⟨ho, hin⟩ := firingOk_iff.1 hs
  have hcut := hf ▸ ho.cut p now
  refine firingOk_iff.2 ⟨hcut.mono fun n l ⟨⟨hactive, hline, htrack⟩, hp⟩ => ?_, hin.mono ?_ hr ha hact⟩
  · refine ⟨(hd n hp).active.trans hactive, (hd n hp).line hactive l hline, ?_⟩
    simpa only [tracks, ht] using htrack
  · rw [hf]
    rfl

theorem keepsGates_modifyLoad {n : LoadIx} {f : Record → Record}
    (h : (s.load n).SameDuty (f (s.load n))) : KeepsGates sound s (s.modifyLoad n f) := by
  refine .of_records rfl rfl rfl (fun _ => id) fun m => ?_
  by_cases hm : m = n
  · subst hm
    rwa [load_modifyLoad_self]
  · rw [load_modifyLoad_ne s hm]
    exact .refl _

theorem keepsGates_mapLoads {f : LoadIx → Record → Record}
    (h : ∀ n, (s.load n).SameDuty (f n (s.load n))) : KeepsGates sound s (s.mapLoads f) :=
  .of_records rfl rfl rfl (fun _ => id) fun n => by
    rw [load_mapLoads]
    exact h n

/-! ## The operations -/

/-- A load whose line changes is cut; the others stay on their lines (R82, R115). -/
theorem keepsGates_applyMembers (p : LoadIx → Bool) : KeepsGates sound s (s.applyMembers p) := by
  refine .of_cut (fun n => p n && (s.load n).changesLine) (applyMembers_firing s p)
    (applyMembers_rstLow s p) (applyMembers_allOff s p) (applyMembers_trackers s p) (fun n => ?_)
    fun n hn => ?_ <;> rw [load_applyMembers] <;> split
  · exact fun h => Record.isActive_applyStaged.symm.trans h
  · exact id
  · rename_i hp
    exact Record.sameDuty_applyStaged (by simpa [hp] using hn)
  · exact .refl _

theorem keepsGates_skipLoads (p : LoadIx → Bool) : KeepsGates sound s (s.skipLoads p) := by
  refine .of_records rfl rfl rfl (fun _ => id) fun n => ?_
  rw [load_skipLoads]
  split
  · exact Record.sameDuty_of_eq rfl rfl
  · exact .refl _

/-- A faulted load is cut (R101). -/
theorem keepsGates_faultLoads (p : LoadIx → Bool) (cause : FaultCause) :
    KeepsGates sound s (s.faultLoads p cause) := by
  refine .of_cut (u := s.faultLoads p cause) p rfl rfl rfl rfl (fun n => ?_) fun n hn => ?_ <;>
    rw [load_faultLoads]
  · split
    · exact fun h => by simp [Record.fault, Record.leaveActive, Record.isActive] at h
    · exact id
  · rw [hn]
    exact .refl _

theorem keepsGates_judgeCheck (n : LoadIx) (conducting : Bool) :
    KeepsGates sound s (s.judgeCheck n conducting) := by
  unfold judgeCheck
  dsimp only
  split
  · split
    · exact keepsGates_modifyLoad (Record.sameDuty_of_eq rfl rfl)
    · split
      · exact keepsGates_modifyLoad (Record.sameDuty_of_eq rfl rfl)
      · exact keepsGates_faultLoads _ _
  · exact .refl s

theorem keepsGates_sampleQuiet (l : Line) (set : LoadSet) : KeepsGates sound s (s.sampleQuiet l set) := by
  unfold sampleQuiet
  dsimp only
  refine (keepsGates_mapLoads fun n => ?_).trans (keepsGates_faultLoads _ _)
  split
  · exact Record.sameDuty_of_eq (Record.judgeQuiet_state _) (Record.judgeQuiet_config _)
  · exact .refl _

/-! ### The half-cycle boundary -/

theorem keepsGates_stepRamps (l : Line) : KeepsGates sound s (s.stepRamps l) := by
  refine keepsGates_mapLoads fun n => ?_
  split
  · exact Record.sameDuty_of_eq (Record.rampStep_state _) (Record.rampStep_config _)
  · exact .refl _

theorem keepsGates_decideBursts (b : Boundary) : KeepsGates sound s (s.decideBursts b) := by
  refine keepsGates_mapLoads fun n => ?_
  split
  · exact Record.sameDuty_of_eq (Record.decideBurst_state _) (Record.decideBurst_config _)
  · exact .refl _

theorem keepsGates_dropList (l : Line) : KeepsGates sound s (s.dropList l) := by
  refine KeepsGates.trans (keepsGates_skipLoads _) (.of_entries ?_ (fun D h => ?_) rfl)
  · exact .of_sublist (le_refl _) (.refl _)
  · exact h.setList l (by simp)

/-- An entry that a boundary makes is of an ACTIVE load of its line. -/
theorem drives_of_entry {b : Boundary} (hb : s.tracks b.line = true) {n : LoadIx} {x : FiringEntry}
    (h : b.entry n (s.load n) = some x) :
    s.Drives x.load b.line ∧ ∀ e, x = .pulse e → e.line = b.line := by
  obtain ⟨c, hactive, hc, hline, -, hfires⟩ := Boundary.entry_eq_some.1 h
  have hd : s.Drives n b.line := ⟨Record.isActive_iff.2 hactive, by simp [Record.onLine, hc, hline], hb⟩
  obtain ⟨hload, hpulse⟩ := hfires.load_line
  exact ⟨hload ▸ hd, hpulse⟩

theorem mem_firingList {b : Boundary} {x : FiringEntry} :
    x ∈ s.firingList b ↔ ∃ n, b.entry n (s.load n) = some x := by
  simp [firingList, mem_foldr_insertBy]

theorem keepsGates_buildList {b : Boundary} (hb : sound → s.tracks b.line = true) :
    KeepsGates sound s (s.buildList b) := by
  refine ⟨.of_sublist (le_refl _) (.refl _), fun hp hs => ?_⟩
  obtain ⟨ho, hin⟩ := firingOk_iff.1 hs
  refine firingOk_iff.2 ⟨ho.setList b.line fun x hx => ?_, hin.mono rfl rfl rfl fun _ => id⟩
  obtain ⟨n, hn⟩ := mem_firingList.1 hx
  exact drives_of_entry (hb hp) hn

theorem keepsGates_announce {b : Boundary} (hb : sound → s.tracks b.line = true) :
    KeepsGates sound s (s.announce b) := by
  have hupTo : KeepsGates sound s ((((s.applyMembers (s.waitsOn b.line)).stepRamps b.line).decideBursts
      b).dropList b.line) :=
    (((keepsGates_applyMembers _).trans (keepsGates_stepRamps _)).trans
      (keepsGates_decideBursts b)).trans (keepsGates_dropList b.line)
  refine (hupTo.trans (keepsGates_buildList fun hp => ?_)).trans (.frame rfl rfl rfl rfl rfl)
  rw [← hb hp]
  simp [tracks, dropList]

/-! ### Trackers that move -/

/-- A loss cuts the loads of the line and the members it moves to another line (R42). -/
theorem over_loseLine {D : LoadIx → Line → Prop} (h : s.firing.Over D) (l : Line) :
    (s.loseLine l).firing.Over fun n m =>
      (D n m ∧ (s.load n).onLine l = false) ∧ (s.waitsOn l n && (s.load n).changesLine) = false := by
  rw [loseLine_eq, applyMembers_firing]
  refine Firing.Over.cut (Firing.Over.cut ?_ _ _) _ _
  have hlist : Firing.Over { s.firing with lists := s.firing.lists.set l [] } D :=
    h.setList l (by simp)
  exact { hlist with waiting := fun e he => h.waiting e (List.mem_of_mem_filter he) }

theorem keeps_loseLine_firing (l : Line) : s.firing.Keeps (s.loseLine l).firing := by
  rw [loseLine_eq, applyMembers_firing]
  refine Firing.Keeps.trans (.trans ?_ (Firing.keeps_cut _ _)) (Firing.keeps_cut _ _)
  exact .of_sublist (le_refl _) List.filter_sublist

@[simp] theorem loseLine_inhibit (l : Line) :
    (s.loseLine l).firing.inhibit = s.firing.inhibit := by
  rw [loseLine_eq, applyMembers_firing]
  rfl

@[simp] theorem loseLine_rstLow (l : Line) : (s.loseLine l).rstLow = s.rstLow := by simp [loseLine]

@[simp] theorem loseLine_allOff (l : Line) : (s.loseLine l).allOff = s.allOff := by simp [loseLine]

/-- A line that is lost with its tracker: nothing is left on it, and the other lines are as tracked as
before. -/
theorem keepsGates_loseLine (l : Line) (x : Tracker) :
    KeepsGates sound s ({ s with trackers := s.trackers.set l x }.loseLine l) := by
  refine ⟨keeps_loseLine_firing (s := { s with trackers := s.trackers.set l x }) l, fun _ hs => ?_⟩
  obtain ⟨ho, hin⟩ := firingOk_iff.1 hs
  have hlost := over_loseLine (s := { s with trackers := s.trackers.set l x }) ho l
  refine firingOk_iff.2 ⟨hlost.mono fun n m ⟨⟨⟨hactive, hline, htrack⟩, hoff⟩, hstays⟩ => ?_,
    hin.mono (by simp) (by simp) (by simp) fun n hn => ?_⟩
  · have hm : m ≠ l := by
      rintro rfl
      exact Bool.false_ne_true (hoff.symm.trans hline)
    have hduty : (s.load n).SameDuty (({ s with trackers := s.trackers.set l x }.loseLine l).load n) := by
      rw [load_loseLine]
      split
      · rename_i hw
        rw [hw, Bool.true_and] at hstays
        exact Record.sameDuty_applyStaged hstays
      · exact .refl _
    refine ⟨hduty.active.trans hactive, hduty.line hactive m hline, ?_⟩
    simpa [tracks, hm] using htrack
  · rw [load_loseLine] at hn
    split at hn
    · exact Record.isActive_applyStaged.symm.trans hn
    · exact hn

/-- A tracker that keeps its line tracked. -/
theorem keepsGates_setTracker {l : Line} {x : Tracker}
    (h : s.tracks l = true → x.lock.track.isSome = true) (a : Attention) :
    KeepsGates sound s { s with trackers := s.trackers.set l x, attention := a } := by
  refine .of_records rfl rfl rfl (fun m hm => ?_) fun _ => .refl _
  by_cases hml : m = l
  · subst hml
    simpa [tracks] using h hm
  · simpa [tracks, hml] using hm

@[simp] theorem lineEvent_trackers (l : Line) (e : Option LineEvent) :
    (s.lineEvent l e).trackers = s.trackers := by
  cases e with
  | none => rfl
  | some e => cases e <;> simp [lineEvent]

/-- A move either loses its line or keeps it tracked, and announces boundaries of a tracked line alone. -/
theorem keepsGates_moveTracker (l : Line) {m : Move}
    (hkeep : sound → m.event = some .lost ∨ (s.tracks l = true → m.tracker.lock.track.isSome = true))
    (hb : ∀ k d, m.boundary = some (k, d) → m.tracker.lock.track.isSome = true) :
    KeepsGates sound s (s.moveTracker l m) := by
  have hevent : KeepsGates sound s ({ s with trackers := s.trackers.set l m.tracker }.lineEvent l m.event) := by
    by_cases hlost : m.event = some .lost
    · rw [hlost]
      exact keepsGates_loseLine l m.tracker
    · have hset (a : Attention) :
          KeepsGates sound s { s with trackers := s.trackers.set l m.tracker, attention := a } :=
        ⟨.refl _, fun hp => (keepsGates_setTracker ((hkeep hp).resolve_left hlost) a).driven trivial⟩
      cases he : m.event with
      | none => exact hset _
      | some e =>
        cases e with
        | locked => exact hset _
        | holdoverEntered => exact hset _
        | lost => exact absurd he hlost
  unfold moveTracker
  dsimp only
  split
  · exact hevent
  · rename_i k d hkd
    refine hevent.trans (keepsGates_announce fun _ => ?_)
    simpa [tracks, Track.boundary] using hb k d hkd

end State

end Sys2Proof.Machine
end

section
/-!
SUPPORT. What each command keeps of the gate drive, and the step.
-/

namespace Sys2Proof.Machine

namespace State

variable {s u v : State} {sound : Prop}

/-! ## Pulses and held drives -/

theorem keepsGates_takeDue (now : Nat) : KeepsGates sound s { s with firing := s.firing.takeDue now } := by
  refine .of_entries (Firing.keeps_takeDue now) (fun D h => h.takeDue now) ?_
  rw [Firing.takeDue_exact]
  rfl

/-- A pulse that ends frees its slot for the waiting entries (R79). -/
theorem keepsGates_freeSlot (x : SlotPulse) (now : Nat) :
    KeepsGates sound s { s with firing := ({ s.firing with slots := s.firing.slots.erase x }).grant now } := by
  refine .of_entries (.trans ?_ (Firing.keeps_grant now)) (fun D h => Firing.Over.grant ?_ now) rfl
  · exact .of_sublist List.length_erase_le (.refl _)
  · exact { h with slots := fun y hy => h.slots y (List.mem_of_mem_erase hy) }

/-- The next pulse of a train is of the load and line of the pulse before it (R75). -/
theorem keepsGates_continueTrain {x : SlotPulse} (h : sound → s.FiringOk → s.Drives x.load x.line) :
    KeepsGates sound s (s.continueTrain x) := by
  unfold continueTrain handOver
  dsimp only
  split
  · split
    · refine ⟨.of_sublist (le_refl _) (.refl _), fun hp hs => ?_⟩
      obtain ⟨ho, hin⟩ := firingOk_iff.1 hs
      exact firingOk_iff.2 ⟨ho.list (e := ⟨x.load, x.line, _, _, _, _, _⟩) (h hp hs),
        hin.mono rfl rfl rfl fun _ => id⟩
    · exact keepsGates_skipLoads _
  · split
    · exact .frame rfl rfl rfl rfl rfl
    · exact .refl s

/-- The part after the start of the drive of entry `e`, for load `n` (R68, R72). -/
def startHeld (s : State) (n : LoadIx) (e : HeldEntry) : State :=
  { s with firing := { s.firing with
      lists := s.firing.lists.map fun _ es => es.filter fun x => x != .held e
      held := (s.firing.held.filter fun h => h.load != n) ++ [⟨n, e.stop⟩] } }

/-- The drive that starts was listed. -/
theorem keepsGates_startHeld {l : Line} {e : HeldEntry} (he : .held e ∈ s.firing.lists.get l) :
    KeepsGates sound s (s.startHeld e.load e) := by
  refine .of_entries (.of_sublist (le_refl _) (.refl _)) (fun D h => { h with
    lists := fun m x hx => ?_
    held := fun x hx => ?_ }) rfl
  · simp only [PerLine.get_map, List.mem_filter] at hx
    exact h.lists m x hx.1
  · rcases List.mem_append.1 hx with hx | hx
    · exact h.held x (List.mem_of_mem_filter hx)
    · obtain rfl := List.mem_singleton.1 hx
      exact ⟨l, (h.lists l _ he).1⟩

theorem keepsGates_endHeld (h : HeldDrive) :
    KeepsGates sound s { s with firing := { s.firing with held := s.firing.held.erase h } } :=
  .of_entries (.of_sublist (le_refl _) (.refl _)) (fun _ ho => { ho with
    held := fun x hx => ho.held x (List.mem_of_mem_erase hx) }) rfl

theorem keepsGates_unwait (e : PulseEntry) :
    KeepsGates sound s { s with firing := { s.firing with waiting := s.firing.waiting.erase e } } :=
  .of_entries (.of_sublist (le_refl _) List.erase_sublist) (fun _ ho => { ho with
    waiting := fun x hx => ho.waiting x (List.mem_of_mem_erase hx) }) rfl

/-! ## All off and resets -/

/-- A stop of holds leaves every load in its state. -/
theorem state_stopHolds (p : SlotIx → Bool) (n : LoadIx) :
    ((s.stopHolds p).load n).state = (s.load n).state := by
  rw [load_stopHolds]
  split
  · split <;> rfl
  · rfl

/-- The all-off actions leave no load ACTIVE (R85). -/
theorem takeAllOff_inactive (n : LoadIx) : (s.takeAllOff.load n).isActive = false := by
  unfold takeAllOff
  rw [Record.isActive, state_stopHolds, load_def, Table.get_mapIx]
  split
  · rfl
  · rename_i h
    exact Bool.eq_false_iff.2 h

/-- A part that is all off, whatever it makes of inhibit and ALLOFF. -/
theorem keepsGates_allOff (hf : u.firing = .reset u.firing.inhibit)
    (hoff : ∀ n, (u.load n).isActive = false)
    (hlevel : s.FiringOk → u.rstLow = false → u.firing.inhibit = u.allOff) : KeepsGates sound s u :=
  ⟨hf ▸ Firing.keeps_reset _, fun _ hs => firingOk_of_off hf hoff (hlevel hs)⟩

/-- With every record VACANT no load is ACTIVE. -/
theorem inactive_of_vacant (hl : u.loads = .fill 24 .vacant) (n : LoadIx) : (u.load n).isActive = false := by
  rw [load_def, hl, Table.get_fill]
  rfl

/-! ## Requests of stations -/

theorem sameDuty_claim (r : Record) (target fade p : Nat) (origin : Origin) :
    r.SameDuty (r.claim target fade p origin) :=
  Record.sameDuty_of_eq (Record.claim_state ..) (Record.claim_config ..)

theorem keepsGates_stopHolds (p : SlotIx → Bool) : KeepsGates sound s (s.stopHolds p) := by
  refine .of_records rfl rfl rfl (fun _ => id) fun n => ?_
  rw [load_stopHolds]
  split
  · split
    · exact Record.sameDuty_of_eq rfl rfl
    · exact .refl _
  · exact .refl _

theorem keepsGates_stopHoldOf (i : SlotIx) : KeepsGates sound s (s.stopHoldOf i) := by
  unfold stopHoldOf
  split
  · exact keepsGates_stopHolds _
  · exact .refl s

theorem keepsGates_recallScene (n : SceneIx) (es : List SceneEntry) (fade : Nat) (caller : Caller) :
    KeepsGates sound s (s.recallScene n es fade caller) := by
  refine keepsGates_mapLoads fun i => ?_
  split
  · exact .refl _
  · split
    · exact sameDuty_claim ..
    · exact .refl _

theorem keepsGates_zoneOff (i : SlotIx) (z : Zone) : KeepsGates sound s (s.zoneOff i z) := by
  refine keepsGates_mapLoads fun n => ?_
  split
  · exact sameDuty_claim ..
  · exact .refl _

theorem keepsGates_startHold (i : SlotIx) (z : Zone) (d : Direction) :
    KeepsGates sound s (s.startHold i z d) := by
  unfold startHold
  dsimp only
  split
  · exact .frame rfl rfl rfl rfl rfl
  · refine KeepsGates.trans (u := (s.stopHoldOf i).modifySlot i _)
      ((keepsGates_stopHoldOf i).trans (.frame rfl rfl rfl rfl rfl)) (keepsGates_mapLoads fun n => ?_)
    split
    · exact Record.sameDuty_of_eq (Record.claimHold_state ..) (Record.claimHold_config ..)
    · exact .refl _

theorem keepsGates_endHold (i : SlotIx) (z : Zone) : KeepsGates sound s (s.endHold i z) := by
  unfold endHold
  split
  · exact keepsGates_stopHoldOf i
  · exact .refl s

theorem keepsGates_stationRecall (i : SlotIx) (n : SceneIx) : KeepsGates sound s (s.stationRecall i n) := by
  unfold stationRecall
  split
  · exact .refl s
  · exact keepsGates_recallScene ..

theorem keepsGates_failPoll (i : SlotIx) : KeepsGates sound s (s.failPoll i) := by
  unfold failPoll
  dsimp only
  split
  · exact .refl s
  · exact .refl s
  · split
    · exact .frame rfl rfl rfl rfl rfl
    · exact (keepsGates_stopHoldOf i).trans (.frame rfl rfl rfl rfl rfl)

theorem keepsGates_answer (i : SlotIx) : KeepsGates sound s (s.answer i) := by
  unfold answer
  split <;> exact .frame rfl rfl rfl rfl rfl

theorem keepsGates_chooseNext : KeepsGates sound s s.chooseNext := .frame rfl rfl rfl rfl rfl

theorem keepsGates_judge (i : SlotIx) (seq : Bool) (refusal : Option Reason) {carryOut : State → State}
    (h : ∀ v : State, KeepsGates sound v (carryOut v)) :
    KeepsGates sound s (s.judge i seq refusal carryOut) := by
  unfold judge
  split
  · exact .refl s
  · split
    · exact .frame rfl rfl rfl rfl rfl
    · exact KeepsGates.trans (u := s.modifySlot i _) (.frame rfl rfl rfl rfl rfl) (h _)

/-- A Reply row whose requests keep the gate drive. -/
def HandlesGates (sound : Prop) (handle : Request → Option (SlotIx → State → State)) : Prop :=
  ∀ r f, handle r = some f → ∀ i v, KeepsGates sound v (f i v)

theorem keepsGates_takeReply (frame : List Byte) {handle : Request → Option (SlotIx → State → State)}
    (h : HandlesGates sound handle) : KeepsGates sound s (s.takeReply frame handle) := by
  unfold takeReply
  split
  · exact .refl s
  · split
    · exact .refl s
    · rename_i q _ _ f hf
      obtain ⟨r, -, hr⟩ := Option.bind_eq_some_iff.1 hf
      have hend : KeepsGates sound s { s with link := s.link.endPoll s.now } := .frame rfl rfl rfl rfl rfl
      refine KeepsGates.trans ?_ keepsGates_chooseNext
      split
      · exact hend
      · exact (hend.trans (keepsGates_answer q.slot)).trans (h r f hr q.slot _)

theorem handlesGates_idle : HandlesGates sound Request.takeIdle
  | .idle, _, rfl, _, _ => .frame rfl rfl rfl rfl rfl

theorem handlesGates_recall : HandlesGates sound Request.takeRecall
  | .recall n seq, _, rfl, i, _ => keepsGates_judge i seq _ fun _ => keepsGates_stationRecall i n

theorem handlesGates_raise : HandlesGates sound Request.takeRaise
  | .raiseStart z seq, _, rfl, i, _ => keepsGates_judge i seq _ fun _ => keepsGates_startHold i z .raise

theorem handlesGates_lower : HandlesGates sound Request.takeLower
  | .lowerStart z seq, _, rfl, i, _ => keepsGates_judge i seq _ fun _ => keepsGates_startHold i z .lower

theorem handlesGates_holdStop : HandlesGates sound Request.takeHoldStop
  | .holdStop z seq, _, rfl, i, _ => keepsGates_judge i seq _ fun _ => keepsGates_endHold i z

theorem handlesGates_off : HandlesGates sound Request.takeOff
  | .off z seq, _, rfl, i, _ => keepsGates_judge i seq _ fun _ => keepsGates_zoneOff i z

/-! ## The bodies of the commands -/

/-- What a command body carries out keeps the gate drive; a refusal always does (R167). -/
def BodyKeepsGates (sound : Prop) (s : State) (r : CommandResult) : Prop :=
  ∀ v payload, r = .ok (v, payload) → KeepsGates sound s v

theorem BodyKeepsGates.bind {α : Type} {x : Except Status α} {f : α → CommandResult}
    (h : ∀ a, x = .ok a → BodyKeepsGates sound s (f a)) : BodyKeepsGates sound s (x >>= f) :=
  fun v payload hr => by
    obtain ⟨a, hx, ha⟩ := bind_eq_ok.1 hr
    exact h a hx v payload ha

theorem BodyKeepsGates.ok {r : State × List Byte} (h : KeepsGates sound s r.1) :
    BodyKeepsGates sound s (.ok r) := by
  rintro w q ⟨⟩
  exact h

/-- A body whose result differs from `s` in other blocks alone. -/
theorem BodyKeepsGates.frame {r : State × List Byte} (hf : r.1.firing = s.firing)
    (hl : r.1.loads = s.loads) (ht : r.1.trackers = s.trackers) (hr : r.1.rstLow = s.rstLow)
    (ha : r.1.allOff = s.allOff) : BodyKeepsGates sound s (.ok r) :=
  .ok (.frame hf hl ht hr ha)

theorem BodyKeepsGates.error (status : Status) : BodyKeepsGates sound s (.error status) :=
  fun _ _ h => nomatch h

theorem state_of_inState {n : LoadIx} {st : RecordState} {failure : Status} {x : Unit}
    (h : require (s.inState n st) failure = .ok x) : (s.load n).state = st := by
  simpa [inState] using h

/-- A VACANT record takes its configuration in DEFINED (R11). -/
theorem keepsGates_defineLoad (p : List Byte) : BodyKeepsGates sound s (defineLoad p s) :=
  .bind fun n _ => .bind fun c _ => .bind fun _ hs => .ok <|
    keepsGates_modifyLoad (Record.sameDuty_of_idle (by simp [state_of_inState hs]) (by simp))

/-- A load is enabled outside inhibit and with RST high; nothing of it is listed yet (R12, R86). -/
theorem keepsGates_enableLoad (hr : s.rstLow = false) (p : List Byte) :
    BodyKeepsGates sound s (enableLoad p s) := by
  refine .bind fun n _ => .bind fun _ hi => .bind fun _ hs => .ok ⟨.refl _, fun _ hok => ?_⟩
  have hinhibit : s.firing.inhibit = false := by simpa using hi
  have hdefined := state_of_inState hs
  obtain ⟨ho, hin⟩ := firingOk_iff.1 hok
  refine firingOk_iff.2 ⟨ho.mono fun m l hd => ?_, ⟨fun h => ?_, fun h => ?_, hin.level⟩⟩
  · have hm : m ≠ n := by
      rintro rfl
      exact not_drives (by simp [Record.isActive, hdefined]) hd
    obtain ⟨hactive, hline, htrack⟩ := hd
    rw [← load_modifyLoad_ne s hm] at hactive hline
    exact ⟨hactive, hline, htrack⟩
  · exact absurd (hinhibit.symm.trans h) Bool.false_ne_true
  · exact absurd (hr.symm.trans h) Bool.false_ne_true

/-- A disabled load is cut (R14, R15). -/
theorem keepsGates_disabled (n : LoadIx) : KeepsGates sound s (s.disabled n) := by
  refine .of_cut (fun m => m == n) rfl rfl rfl rfl (fun m => ?_) fun m hm => ?_
  · by_cases hm : m = n
    · subst hm
      rw [load_disabled_self]
      exact fun h => by simp [Record.leaveActive, Record.isActive] at h
    · rw [load_disabled_ne s hm]
      exact id
  · rw [load_disabled_ne s (by simpa using hm)]
    exact .refl _

theorem keepsGates_disableLoad (p : List Byte) : BodyKeepsGates sound s (disableLoad p s) := by
  refine .bind fun n _ => .bind fun _ _ => .ok ?_
  have hcut : KeepsGates sound s (s.disabled n) := keepsGates_disabled n
  dsimp only
  split
  · exact hcut.trans (keepsGates_applyMembers _)
  · exact hcut

/-- A load that is released was not ACTIVE (R17). -/
theorem keepsGates_releaseLoad (p : List Byte) : BodyKeepsGates sound s (releaseLoad p s) := by
  refine .bind fun n _ => .bind fun _ hs => .bind fun _ _ => .ok ?_
  have hidle : (s.load n).state ≠ .active := by
    rcases (by simpa [inState] using hs : (s.load n).state = .defined ∨ (s.load n).state = .faulted)
      with h | h <;> simp [h]
  have hvacant : KeepsGates sound s (s.modifyLoad n fun _ => .vacant) :=
    keepsGates_modifyLoad (Record.sameDuty_of_idle hidle (by simp [Record.vacant]))
  exact hvacant.trans (.frame rfl rfl rfl rfl rfl)

theorem keepsGates_clearFault (p : List Byte) : BodyKeepsGates sound s (clearFault p s) :=
  .bind fun n _ => .bind fun _ hs => .ok <| keepsGates_modifyLoad
    (Record.sameDuty_of_idle (by simp [state_of_inState hs]) (by simp [Record.leaveActive]))

theorem keepsGates_commit (p : List Byte) : BodyKeepsGates sound s (Machine.commit p s) := by
  refine .bind fun _ _ => .ok ?_
  have hset : KeepsGates sound s { s with commit := ⟨.pending, s.stagedMembers, s.commit.seq + 1⟩ } :=
    .frame rfl rfl rfl rfl rfl
  exact hset.trans (keepsGates_applyMembers _)

/-- A tracker under a new enable: it loses its line, or keeps it as tracked as it was. -/
theorem keepsGates_configureTracker {before after : PerLine Bool} {l : Line}
    (h : sound → before.get l = false → (s.trackers.get l).lock = .off) :
    KeepsGates sound s (s.configureTracker before after l) := by
  refine keepsGates_moveTracker l (fun hp => ?_) fun k d hkd => ?_
  · exact (Tracker.configure_keeps _ _ (after.get l) (h hp)).2
  · unfold Tracker.configure at hkd
    split at hkd
    · simp at hkd
    · split at hkd <;> simp [Tracker.stay] at hkd

theorem keepsGates_configured (h : sound → s.TrackersOk) (c : LineConfig) :
    KeepsGates sound s (s.configured c) := by
  have hoff (hp : sound) (l : Line) (hl : s.lineConfig.enable.get l = false) :
      (s.trackers.get l).lock = .off := ((trackersOk_iff.1 (h hp)).2 l).off.2 hl
  have hset : KeepsGates sound s { s with lineConfig := c } := .frame rfl rfl rfl rfl rfl
  have ha := hset.trans (keepsGates_configureTracker (after := c.enable) (l := .a) fun hp => hoff hp .a)
  have hb := ha.trans (keepsGates_configureTracker (after := c.enable) (l := .b) fun hp hl => by
    simpa [configureTracker] using hoff hp .b hl)
  exact hb.trans (keepsGates_configureTracker (after := c.enable) (l := .c) fun hp hl => by
    simpa [configureTracker] using hoff hp .c hl)

theorem keepsGates_configureLines (h : sound → s.TrackersOk) (p : List Byte) :
    BodyKeepsGates sound s (configureLines p s) := fun v payload hv => by
  obtain ⟨c, -, rfl⟩ := configured_of_ok hv
  exact keepsGates_configured h c

/-- A read of the noise count leaves the lock states alone. -/
theorem keepsGates_readLine (p : List Byte) : BodyKeepsGates sound s (readLine p s) :=
  .bind fun l _ => .ok (keepsGates_setTracker (x := { s.trackers.get l with noiseCount := 0 }) id _)

theorem keepsGates_switchLink (before after : Bool) : KeepsGates sound s (s.switchLink before after) := by
  unfold switchLink
  dsimp only
  split
  · exact (keepsGates_stopHolds _).trans (.frame rfl rfl rfl rfl rfl)
  · split <;> exact .frame rfl rfl rfl rfl rfl

theorem keepsGates_configureLink (p : List Byte) : BodyKeepsGates sound s (configureLink p s) := by
  refine .bind fun c _ => .ok ?_
  have hset : KeepsGates sound s { s with link := { s.link with
      enable := c.enable, holdStep := c.holdStep, holdExpiry := c.holdExpiry, offFade := c.offFade } } :=
    .frame rfl rfl rfl rfl rfl
  exact hset.trans (keepsGates_switchLink _ _)

theorem keepsGates_enrollStation (p : List Byte) : BodyKeepsGates sound s (enrollStation p s) := by
  refine .bind fun _ _ => .bind fun _ _ => ?_
  split
  · exact .error .noSpace
  · exact .frame rfl rfl rfl rfl rfl

theorem keepsGates_removeStation (p : List Byte) : BodyKeepsGates sound s (removeStation p s) :=
  .bind fun i _ => .bind fun _ _ => .ok <|
    KeepsGates.trans (keepsGates_stopHoldOf i) (.frame rfl rfl rfl rfl rfl)

theorem keepsGates_allOffCommand (p : List Byte) : BodyKeepsGates sound s (Machine.allOff p s) :=
  .ok (keepsGates_allOff rfl takeAllOff_inactive fun hs => (firingOk_iff.1 hs).2.level)

theorem keepsGates_restart (p : List Byte) : BodyKeepsGates sound s (restart p s) :=
  .ok (keepsGates_allOff rfl (inactive_of_vacant rfl) fun _ _ => rfl)

/-! ## Commands taken and frames executed -/

/-- With RST high a command does what it does; with RST low only the timebase moves. -/
theorem keepsGates_takes {t : Nat} {f : State → State} (h : s.takes t f = .next u)
    (hf : s.rstLow = false → KeepsGates sound (s.at t) (f (s.at t))) : KeepsGates sound s u := by
  have hat : KeepsGates sound s (s.at t) := .frame rfl rfl rfl rfl rfl
  cases hr : s.rstLow with
  | true =>
    rw [takes_low hr] at h
    obtain rfl := Host.Outcome.next.inj h
    exact hat
  | false =>
    rw [takes_high hr] at h
    obtain rfl := Host.Outcome.next.inj h
    exact hat.trans (hf hr)

theorem keepsGates_runs {t : Nat} {c : Instr} {code : Byte} (body : List Byte → State → CommandResult)
    (hc : Runs t c code body) (h : exec c s = .next u)
    (hb : s.rstLow = false → ∀ p, BodyKeepsGates sound (s.at t) (body p (s.at t))) :
    KeepsGates sound s u := by
  refine keepsGates_takes (hc s ▸ h) fun hr => ?_
  rcases (s.at t).execute_cases code body with hv | ⟨status, hv⟩ | ⟨p, w, payload, hw, hv⟩
  · rw [hv]
    exact .refl _
  · rw [hv]
    exact .frame rfl rfl rfl rfl rfl
  · rw [hv]
    exact (hb hr p w payload hw).trans (.frame rfl rfl rfl rfl rfl)

/-! ## Events, one by one -/

theorem keepsGates_execPowerOnReset (h : execPowerOnReset s = .next u) : KeepsGates sound s u := by
  obtain rfl := Host.Outcome.next.inj h
  split
  · rename_i hr
    exact keepsGates_allOff rfl (inactive_of_vacant rfl) fun _ hh =>
      absurd (hr.symm.trans hh) (by decide)
  · exact keepsGates_allOff rfl (inactive_of_vacant rfl) fun _ _ => rfl

theorem keepsGates_execPinReset {t : Nat} (h : execPinReset t s = .next u) : KeepsGates sound s u :=
  keepsGates_takes h fun _ => keepsGates_allOff rfl (inactive_of_vacant rfl) fun _ hh => nomatch hh

/-- While RST is low nothing is driven, so ALLOFF may be judged as it is when the reset ends (R91). -/
theorem keepsGates_execPinResetEnd {t : Nat} (h : execPinResetEnd t s = .next u) :
    KeepsGates sound s u := by
  obtain rfl := Host.Outcome.next.inj h
  split
  · rename_i hr
    refine ⟨.of_sublist (le_refl _) (.refl _), fun _ hs => ?_⟩
    obtain ⟨⟨hslots, hwaiting, hlists, hheld⟩, hin⟩ := firingOk_iff.1 hs
    exact firingOk_iff.2 ⟨⟨hslots, hwaiting, hlists, hheld⟩,
      ⟨fun _ => hin.inReset hr, fun hh => (nomatch hh), fun _ => rfl⟩⟩
  · exact .frame rfl rfl rfl rfl rfl

theorem keepsGates_execAlloffAssertion {t : Nat} (h : execAlloffAssertion t s = .next u) :
    KeepsGates sound s u := by
  simp only [execAlloffAssertion] at h
  split at h
  · rename_i hno
    obtain rfl := Host.Outcome.next.inj h
    refine ⟨.refl _, fun _ hs => ?_⟩
    obtain ⟨ho, hin⟩ := firingOk_iff.1 hs
    refine firingOk_iff.2 ⟨ho, ⟨hin.inhibited, hin.inReset, fun hr => (hin.level hr).trans ?_⟩⟩
    have hr' : s.rstLow = false := hr
    simpa [hr'] using hno
  · obtain rfl := Host.Outcome.next.inj h
    exact keepsGates_allOff rfl takeAllOff_inactive fun _ _ => rfl

theorem keepsGates_execAlloffRelease {t : Nat} (h : execAlloffRelease t s = .next u) :
    KeepsGates sound s u := by
  simp only [execAlloffRelease] at h
  split at h
  · rename_i hno
    obtain rfl := Host.Outcome.next.inj h
    refine ⟨.refl _, fun _ hs => ?_⟩
    obtain ⟨ho, hin⟩ := firingOk_iff.1 hs
    refine firingOk_iff.2 ⟨ho, ⟨hin.inhibited, hin.inReset, fun hr => (hin.level hr).trans ?_⟩⟩
    have hr' : s.rstLow = false := hr
    simpa [hr'] using hno
  · obtain rfl := Host.Outcome.next.inj h
    refine ⟨.of_sublist (le_refl _) (.refl _), fun _ hs => ?_⟩
    obtain ⟨⟨hslots, hwaiting, hlists, hheld⟩, hin⟩ := firingOk_iff.1 hs
    exact firingOk_iff.2 ⟨⟨hslots, hwaiting, hlists, hheld⟩,
      ⟨fun hh => (nomatch hh), hin.inReset, fun _ => rfl⟩⟩

theorem keepsGates_execZeroCrossEdge {t : Nat} {l : Line} {level : Bool}
    (h : execZeroCrossEdge t l level s = .next u) : KeepsGates sound s u := by
  have hzc : KeepsGates sound s { s with zc := s.zc.set l level } := .frame rfl rfl rfl rfl rfl
  unfold execZeroCrossEdge at h
  refine hzc.trans (keepsGates_takes h fun _ => keepsGates_moveTracker l (fun _ => .inr ?_) fun k d hb => ?_)
  · exact (Tracker.edge_keeps _ _ _ _).1
  · rw [(Tracker.edge_boundary _ _ _ _ hb).1]
    rfl

theorem keepsGates_execAcquisitionTimeout {t : Nat} {l : Line}
    (h : execAcquisitionTimeout t l s = .next u) : KeepsGates sound s u :=
  keepsGates_takes h fun _ => keepsGates_setTracker
    (fun ht => by rwa [Tracker.timeout_keeps _ _ ht]) (s.at t).attention

theorem keepsGates_execAcceptanceWindowClose {t : Nat} {l : Line}
    (h : execAcceptanceWindowClose t l s = .next u) : KeepsGates sound s u := by
  refine keepsGates_takes h fun _ => keepsGates_moveTracker l (fun _ => ?_) fun k d hb => ?_
  · exact Tracker.windowClose_keeps _ _ _
  · obtain ⟨⟨n, hn⟩, -⟩ := Tracker.windowClose_boundary _ _ _ hb
    rw [hn]
    rfl

theorem keepsGates_execPulseEnd {t : Nat} {n : LoadIx} (h : execPulseEnd t n s = .next u) :
    KeepsGates sound s u := by
  refine keepsGates_takes h fun _ => ?_
  split
  · exact .refl _
  · rename_i x hx
    have hfree := keepsGates_freeSlot (sound := sound) (s := s.at t) x (s.at t).now
    refine ⟨hfree.bound.trans (keepsGates_continueTrain (sound := False) False.elim).bound,
      fun hp hs => (keepsGates_continueTrain fun _ _ => ?_).driven hp (hfree.driven hp hs)⟩
    exact (firingOk_iff.1 hs).1.slots x (List.mem_of_find?_eq_some hx)

theorem keepsGates_execLatestStartPassed {t : Nat} {n : LoadIx}
    (h : execLatestStartPassed t n s = .next u) : KeepsGates sound s u := by
  refine keepsGates_takes h fun _ => ?_
  split
  · exact .refl _
  · exact (keepsGates_unwait _).trans (keepsGates_skipLoads _)

theorem keepsGates_execHeldDriveStart {t : Nat} {n : LoadIx} (h : execHeldDriveStart t n s = .next u) :
    KeepsGates sound s u := by
  refine keepsGates_takes h fun _ => ?_
  split
  · exact .refl _
  · rename_i e he
    obtain ⟨x, hx, hxe⟩ := List.exists_of_findSome?_eq_some he
    obtain ⟨rfl, rfl, -⟩ := Firing.dueHeld_eq_some.1 hxe
    obtain ⟨l, hl⟩ := Firing.mem_entries.1 hx
    exact keepsGates_startHeld hl

theorem keepsGates_execHeldDriveEnd {t : Nat} {n : LoadIx} {level : Bool}
    (h : execHeldDriveEnd t n level s = .next u) : KeepsGates sound s u := by
  refine keepsGates_takes h fun _ => ?_
  split
  · exact .refl _
  · have hsense : KeepsGates sound (s.at t) ((s.at t).sampleSense n level) := .frame rfl rfl rfl rfl rfl
    exact (hsense.trans (keepsGates_judgeCheck n level)).trans (keepsGates_endHeld _)

theorem keepsGates_execPostFiringCheck {t : Nat} {n : LoadIx} {level : Bool}
    (h : execPostFiringCheck t n level s = .next u) : KeepsGates sound s u := by
  refine keepsGates_takes h fun _ => ?_
  split
  · exact .refl _
  · refine KeepsGates.trans ?_ (keepsGates_judgeCheck n level)
    exact .frame rfl rfl rfl rfl rfl

theorem keepsGates_execQuietSample {t : Nat} {l : Line} {levels : LoadSet}
    (h : execQuietSample t l levels s = .next u) : KeepsGates sound s u := by
  refine keepsGates_takes h fun _ => ?_
  split
  · exact .refl _
  · split
    · refine KeepsGates.trans ?_ (keepsGates_sampleQuiet l _)
      exact .frame rfl rfl rfl rfl rfl
    · exact .refl _

theorem keepsGates_execHoldExpiry {t : Nat} {i : SlotIx} (h : execHoldExpiry t i s = .next u) :
    KeepsGates sound s u := by
  refine keepsGates_takes h fun _ => ?_
  split
  · exact .refl _
  · split
    · exact (keepsGates_stopHoldOf i).trans (.frame rfl rfl rfl rfl rfl)
    · exact .refl _

theorem keepsGates_execPoll {t : Nat} (h : execPoll t s = .next u) : KeepsGates sound s u := by
  refine keepsGates_takes h fun _ => ?_
  dsimp only
  split
  · split
    · exact .refl _
    · split
      · exact .refl _
      · exact .frame rfl rfl rfl rfl rfl
  · exact .refl _

theorem keepsGates_execReplyWindowClose {t : Nat} (h : execReplyWindowClose t s = .next u) :
    KeepsGates sound s u := by
  refine keepsGates_takes h fun _ => ?_
  split
  · exact .refl _
  · split
    · have hend : KeepsGates sound (s.at t) { s.at t with link := (s.at t).link.endPoll (s.at t).now } :=
        .frame rfl rfl rfl rfl rfl
      refine KeepsGates.trans ?_ keepsGates_chooseNext
      split
      · exact hend
      · exact hend.trans (keepsGates_failPoll _)
    · exact .refl _

theorem keepsGates_execReplyNotValid {t : Nat} {frame : List Byte}
    (h : execReplyNotValid t frame s = .next u) : KeepsGates sound s u := by
  refine keepsGates_takes h fun _ => ?_
  split
  · exact .refl _
  · split
    · split <;> exact .frame rfl rfl rfl rfl rfl
    · exact .refl _

theorem keepsGates_execCommandWrite {t csFell : Nat} {frame : List Byte}
    (h : execCommandWrite t csFell frame s = .next u) : KeepsGates sound s u := by
  refine keepsGates_takes h fun _ => ?_
  dsimp only
  split <;> exact .frame rfl rfl rfl rfl rfl

theorem keepsGates_execResponseRead {t csFell clocked : Nat}
    (h : execResponseRead t csFell clocked s = .next u) : KeepsGates sound s u := by
  refine keepsGates_takes h fun _ => ?_
  split <;> exact .frame rfl rfl rfl rfl rfl

theorem keepsGates_execTransactionIgnored {t csFell : Nat} {bytes : List Byte}
    (h : execTransactionIgnored t csFell bytes s = .next u) : KeepsGates sound s u := by
  refine keepsGates_takes h fun _ => ?_
  dsimp only
  split <;> exact .frame rfl rfl rfl rfl rfl

theorem keepsGates_execUnknownCommand {t : Nat} (h : execUnknownCommand t s = .next u) :
    KeepsGates sound s u := by
  refine keepsGates_takes h fun _ => ?_
  split
  · exact .refl _
  · split <;> exact .frame rfl rfl rfl rfl rfl

theorem keepsGates_execFrameNotIntact {t : Nat} (h : execFrameNotIntact t s = .next u) :
    KeepsGates sound s u := by
  refine keepsGates_takes h fun _ => ?_
  split
  · split <;> exact .frame rfl rfl rfl rfl rfl
  · exact .refl _
  · exact .refl _

/-- A Reply row keeps the gate drive where its requests do. -/
theorem keepsGates_reply {t : Nat} {frame : List Byte} {handle : Request → Option (SlotIx → State → State)}
    (h : (s.takes t fun s => s.takeReply frame handle) = .next u) (hh : HandlesGates sound handle) :
    KeepsGates sound s u :=
  keepsGates_takes h fun _ => keepsGates_takeReply frame hh

/-- A change within the records' state and configuration. -/
theorem keepsGates_record {n : LoadIx} {f : Record → Record} (payload : List Byte)
    (hs : (f (s.load n)).state = (s.load n).state) (hc : (f (s.load n)).config = (s.load n).config) :
    BodyKeepsGates sound s (.ok (s.modifyLoad n f, payload)) :=
  .ok (keepsGates_modifyLoad (Record.sameDuty_of_eq hs hc))

/-- Every command keeps the gate drive; where lines are configured the trackers' enables count. -/
theorem keepsGates_exec {c : Instr} (h : exec c s = .next u) (ht : sound → s.TrackersOk) :
    KeepsGates sound s u := by
  cases c with
  | powerOnReset => exact keepsGates_execPowerOnReset h
  | pinReset t => exact keepsGates_execPinReset h
  | pinResetEnd t => exact keepsGates_execPinResetEnd h
  | alloffAssertion t => exact keepsGates_execAlloffAssertion h
  | alloffRelease t => exact keepsGates_execAlloffRelease h
  | zeroCrossEdge t line level => exact keepsGates_execZeroCrossEdge h
  | acquisitionTimeout t line => exact keepsGates_execAcquisitionTimeout h
  | acceptanceWindowClose t line => exact keepsGates_execAcceptanceWindowClose h
  | pulseDue t =>
    exact keepsGates_takes (show execPulseDue t s = _ from h) fun _ => keepsGates_takeDue _
  | pulseEnd t load => exact keepsGates_execPulseEnd h
  | latestStartPassed t load => exact keepsGates_execLatestStartPassed h
  | heldDriveStart t load => exact keepsGates_execHeldDriveStart h
  | heldDriveEnd t load level => exact keepsGates_execHeldDriveEnd h
  | postFiringCheck t load level => exact keepsGates_execPostFiringCheck h
  | quietSample t line levels => exact keepsGates_execQuietSample h
  | holdExpiry t slot => exact keepsGates_execHoldExpiry h
  | poll t => exact keepsGates_execPoll h
  | replyWindowClose t => exact keepsGates_execReplyWindowClose h
  | idle t frame => exact keepsGates_reply (show execIdle t frame s = _ from h) handlesGates_idle
  | raiseStart t frame =>
    exact keepsGates_reply (show execRaiseStart t frame s = _ from h) handlesGates_raise
  | lowerStart t frame =>
    exact keepsGates_reply (show execLowerStart t frame s = _ from h) handlesGates_lower
  | holdStop t frame =>
    exact keepsGates_reply (show execHoldStop t frame s = _ from h) handlesGates_holdStop
  | off t frame => exact keepsGates_reply (show execOff t frame s = _ from h) handlesGates_off
  | replyNotValid t frame => exact keepsGates_execReplyNotValid h
  | commandWrite t csFell frame => exact keepsGates_execCommandWrite h
  | responseRead t csFell clocked => exact keepsGates_execResponseRead h
  | transactionIgnored t csFell bytes => exact keepsGates_execTransactionIgnored h
  | unknownCommand t => exact keepsGates_execUnknownCommand h
  | frameNotIntact t => exact keepsGates_execFrameNotIntact h
  | configureLines t =>
    exact keepsGates_runs (t := t) configureLines (fun _ => rfl) h fun _ => keepsGates_configureLines ht
  | readLine t => exact keepsGates_runs (t := t) readLine (fun _ => rfl) h fun _ => keepsGates_readLine
  | defineLoad t =>
    exact keepsGates_runs (t := t) defineLoad (fun _ => rfl) h fun _ => keepsGates_defineLoad
  | enableLoad t => exact keepsGates_runs (t := t) enableLoad (fun _ => rfl) h fun hr =>
      keepsGates_enableLoad hr
  | disableLoad t =>
    exact keepsGates_runs (t := t) disableLoad (fun _ => rfl) h fun _ => keepsGates_disableLoad
  | releaseLoad t =>
    exact keepsGates_runs (t := t) releaseLoad (fun _ => rfl) h fun _ => keepsGates_releaseLoad
  | setLevel t =>
    exact keepsGates_runs (t := t) setLevel (fun _ => rfl) h fun _ _ =>
      .bind fun _ _ => .bind fun _ _ => .bind fun _ _ => .bind fun _ _ =>
        keepsGates_record [] (Record.claim_state ..) (Record.claim_config ..)
  | setLock t =>
    exact keepsGates_runs (t := t) setLock (fun _ => rfl) h fun _ _ =>
      .bind fun _ _ => .bind fun _ _ => .bind fun _ _ => keepsGates_record [] rfl rfl
  | clearFault t =>
    exact keepsGates_runs (t := t) clearFault (fun _ => rfl) h fun _ => keepsGates_clearFault
  | readLoad t =>
    exact keepsGates_runs (t := t) readLoad (fun _ => rfl) h fun _ _ =>
      .bind fun _ _ => keepsGates_record _ rfl rfl
  | stageLoad t =>
    exact keepsGates_runs (t := t) stageLoad (fun _ => rfl) h fun _ _ =>
      .bind fun _ _ => .bind fun _ _ => .bind fun _ _ => .bind fun _ _ => keepsGates_record [] rfl rfl
  | discardStaged t =>
    exact keepsGates_runs (t := t) discardStaged (fun _ => rfl) h fun _ _ =>
      .bind fun _ _ => .bind fun _ _ => .bind fun _ _ => keepsGates_record [] rfl rfl
  | commit t => exact keepsGates_runs (t := t) Machine.commit (fun _ => rfl) h fun _ => keepsGates_commit
  | readCommit t =>
    exact keepsGates_runs (t := t) readCommit (fun _ => rfl) h fun _ _ => .frame rfl rfl rfl rfl rfl
  | writeScene t =>
    exact keepsGates_runs (t := t) writeScene (fun _ => rfl) h fun _ _ =>
      .bind fun _ _ => .bind fun _ _ => .bind fun _ _ => .frame rfl rfl rfl rfl rfl
  | deleteScene t =>
    exact keepsGates_runs (t := t) deleteScene (fun _ => rfl) h fun _ _ =>
      .bind fun _ _ => .bind fun _ _ => .frame rfl rfl rfl rfl rfl
  | readScene t =>
    exact keepsGates_runs (t := t) readScene (fun _ => rfl) h fun _ _ =>
      .bind fun _ _ => .frame rfl rfl rfl rfl rfl
  | recallScene t =>
    exact keepsGates_runs (t := t) Machine.recallScene (fun _ => rfl) h fun _ _ =>
      .bind fun _ _ => .bind fun _ _ => .bind fun _ _ => .bind fun _ _ => .ok (keepsGates_recallScene ..)
  | readPool t =>
    exact keepsGates_runs (t := t) readPool (fun _ => rfl) h fun _ _ => .frame rfl rfl rfl rfl rfl
  | configureLink t =>
    exact keepsGates_runs (t := t) configureLink (fun _ => rfl) h fun _ => keepsGates_configureLink
  | enrollStation t =>
    exact keepsGates_runs (t := t) enrollStation (fun _ => rfl) h fun _ => keepsGates_enrollStation
  | removeStation t =>
    exact keepsGates_runs (t := t) removeStation (fun _ => rfl) h fun _ => keepsGates_removeStation
  | readStation t =>
    exact keepsGates_runs (t := t) readStation (fun _ => rfl) h fun _ _ =>
      .bind fun _ _ => .frame rfl rfl rfl rfl rfl
  | readSummary t =>
    exact keepsGates_runs (t := t) readSummary (fun _ => rfl) h fun _ _ => .frame rfl rfl rfl rfl rfl
  | readEvents t =>
    exact keepsGates_runs (t := t) readEvents (fun _ => rfl) h fun _ _ =>
      .bind fun _ _ => .frame rfl rfl rfl rfl rfl
  | setEventMask t =>
    exact keepsGates_runs (t := t) setEventMask (fun _ => rfl) h fun _ _ =>
      .bind fun _ _ => .frame rfl rfl rfl rfl rfl
  | allOff t =>
    exact keepsGates_runs (t := t) Machine.allOff (fun _ => rfl) h fun _ => keepsGates_allOffCommand
  | identify t =>
    exact keepsGates_runs (t := t) identify (fun _ => rfl) h fun _ _ => .frame rfl rfl rfl rfl rfl
  | restart t => exact keepsGates_runs (t := t) restart (fun _ => rfl) h fun _ => keepsGates_restart
  | _ =>
    -- The RECALL row: its constructor is named by a word that Mathlib reserves.
    rename_i t frame
    exact keepsGates_reply (show execRecall t frame s = _ from h) handlesGates_recall

theorem keepsGates_step (h : step s = .next u) (ht : sound → s.TrackersOk) : KeepsGates sound s u := by
  unfold step at h
  split at h
  · obtain rfl := Host.Outcome.next.inj h
    exact .refl s
  · rename_i c rest _
    have hrest : KeepsGates sound s { s with pending := rest } := .frame rfl rfl rfl rfl rfl
    exact hrest.trans (keepsGates_exec h ht)

end State

/-- Settles O4: slots and waiting list are kept in every state (without `sound`). -/
theorem stepKeepsSlotBound : Obligations.StepKeepsSlotBound :=
  ⟨fun _ _ hs h => (State.keepsGates_step h (sound := False) False.elim).bound.slots hs,
    fun _ _ hw h => State.waitingOk_iff.2 <|
      (State.keepsGates_step h (sound := False) False.elim).bound.waiting (State.waitingOk_iff.1 hw)⟩

/-- Settles O8: the gate-drive invariant is kept under the tracker invariant (`sound` holds). -/
theorem stepKeepsFiringSafe : Obligations.StepKeepsFiringSafe :=
  fun _ _ hf ht h => (State.keepsGates_step h fun _ => ht).driven trivial hf

/-- Settles O11: a high gate is of a pulse in a slot or of a held drive, so of a load that may be driven,
and no load is ACTIVE in inhibit or while RST is low. -/
theorem highGateIsDrivable : Obligations.HighGateIsDrivable := by
  intro s n hs hgate
  obtain ⟨ho, hin⟩ := State.firingOk_iff.1 hs
  have hdrives : ∃ l, s.Drives n l := by
    simp only [State.gate, Bool.or_eq_true, List.any_eq_true, beq_iff_eq] at hgate
    rcases hgate with ⟨x, hx, rfl⟩ | ⟨x, hx, rfl⟩
    · exact ⟨x.line, ho.slots x hx⟩
    · exact ho.held x hx
  obtain ⟨l, hd⟩ := hdrives
  have hinhibit : s.firing.inhibit = false :=
    Bool.eq_false_iff.2 fun h => State.not_drives (hin.inhibited h n) hd
  have hrst : s.rstLow = false := Bool.eq_false_iff.2 fun h => State.not_drives (hin.inReset h n) hd
  exact ⟨(hin.level hrst).symm.trans hinhibit, hinhibit, hrst, l, hd⟩

end Sys2Proof.Machine
end

section
/-!
SUPPORT. The events of firing: pulses that fall due, end or come too late, and held drives.
-/

namespace Sys2Proof.Machine

namespace State

variable {s u v : State} {n : LoadIx}

/-! ## Gates and skips -/

theorem gate_eq_false_iff : s.gate n = false ↔
    (∀ x ∈ s.firing.slots, x.load ≠ n) ∧ ∀ h ∈ s.firing.held, h.load ≠ n := by
  simp [gate]

theorem gate_of_slot {x : SlotPulse} (h : x ∈ s.firing.slots) : s.gate x.load = true := by
  rw [← Bool.not_eq_false, gate_eq_false_iff]
  exact fun hno => hno.1 x h rfl

theorem gate_of_held {h : HeldDrive} (hh : h ∈ s.firing.held) : s.gate h.load = true := by
  rw [← Bool.not_eq_false, gate_eq_false_iff]
  exact fun hno => hno.2 h hh rfl

/-- The trains of the loads of `p` abandoned, in a part whose records and details are those of `s`. -/
theorem skips_skipLoads {p : LoadIx → Bool} {P : LoadIx → Prop} (hl : v.loads = s.loads)
    (ha : v.attention = s.attention) (hp : ∀ n, p n = true ↔ P n) : s.Skips (v.skipLoads p) P := by
  refine ⟨fun m hm => ?_, fun m hm => ?_, fun m => ?_, ?_⟩
  · rw [load_skipLoads, load_congr hl, if_pos ((hp m).2 hm)]
  · rw [load_skipLoads, load_congr hl, if_neg (mt (hp m).1 hm)]
  · rw [skipLoads_attention, ha]
    simp [Attention.reportSkips, hp, or_comm]
  · rw [skipLoads_attention, ha]
    rfl

/-- The train of one load abandoned. -/
theorem skips_skipLoad (hl : v.loads = s.loads) (ha : v.attention = s.attention) (n : LoadIx) :
    s.Skips (v.skipLoads fun m => m == n) (· = n) := skips_skipLoads hl ha fun _ => beq_iff_eq

end State

/-- A load's only item in a list is the one found for it. -/
theorem find_of_only {α : Type} (load : α → LoadIx) (p : α → Bool) {x : α} {xs : List α} (hx : x ∈ xs)
    (honly : ∀ y ∈ xs, load y = load x → y = x) (hp : p x = true) :
    xs.find? (fun y => load y == load x && p y) = some x := by
  cases hfind : xs.find? fun y => load y == load x && p y with
  | none => exact absurd (by simpa using hp) (List.find?_eq_none.1 hfind x hx)
  | some y =>
    have hy := List.find?_some hfind
    simp only [Bool.and_eq_true, beq_iff_eq] at hy
    rw [honly y (List.mem_of_find?_eq_some hfind) hy.1]

/-! ## PULSE_DUE -/

theorem exec_pulseDue {s : State} (h : s.rstLow = false) (t : Nat) : exec (.pulseDue t) s =
    .next { s with now := max s.now t, firing := s.firing.takeDue (max s.now t) } :=
  show execPulseDue t s = _ from State.takes_high h t _

/-- Settles O27. -/
theorem duePulsesTakeFreeSlots : Obligations.DuePulsesTakeFreeSlots := by
  intro s t hr now due free
  have hexec := exec_pulseDue hr t
  rw [Firing.takeDue_exact] at hexec
  have hperm := Firing.foldl_insertBy_perm s.firing.waiting (due.drop free)
  refine ⟨fun e => Firing.mem_duePulses, Firing.ordered_duePulses _ _, _, hexec, rfl, fun e => ?_, hperm,
    fun hw => Firing.ordered_foldl_insertBy hw _, fun l x => Firing.mem_unlistDue_lists, fun e he => ?_,
    rfl, rfl⟩
  · exact hperm.mem_iff.trans List.mem_append
  · exact State.gate_of_slot (x := e.start now) (List.mem_append_right _ (List.mem_map_of_mem he))

/-! ## PULSE_END -/

namespace State

variable {s : State} {x : SlotPulse}

/-- The train goes on with its next pulse (R75). -/
theorem continueTrain_next (h : x.number < x.count) (hdue : s.now + 200 ≤ x.latestStart) :
    s.continueTrain x = { s with firing := s.firing.list x.line (.pulse
      ⟨x.load, x.line, s.now + 200, x.number + 1, x.width, x.count, x.latestStart⟩) } := by
  simp [continueTrain, h, hdue]

theorem continueTrain_late (h : x.number < x.count) (hdue : x.latestStart < s.now + 200) :
    s.continueTrain x = s.skipLoads fun n => n == x.load := by
  simp [continueTrain, h, Nat.not_le.2 hdue]

theorem continueTrain_last (h : x.count ≤ x.number) : s.continueTrain x = s.handOver x.load := by
  simp [continueTrain, Nat.not_lt.2 h]

/-- What follows a pulse reaches no slot and no waiting entry. -/
theorem continueTrain_firing (s : State) (x : SlotPulse) : (s.continueTrain x).firing =
    { s.firing with lists := (s.continueTrain x).firing.lists } := by
  unfold continueTrain handOver
  dsimp only
  split
  · split <;> rfl
  · split <;> rfl

/-- A handed-over train changes the pending checks alone (R83, R94). -/
theorem handOver_frame (s : State) (n : LoadIx) :
    s.handOver n = { s with monitor := { s.monitor with checks := (s.handOver n).monitor.checks } } := by
  unfold handOver
  split <;> rfl

theorem mem_checks_handOver {c : PendingCheck} {n : LoadIx} : c ∈ (s.handOver n).monitor.checks ↔
    if (s.load n).sensed = true then c = ⟨n, s.now + 150⟩ ∨ (c ∈ s.monitor.checks ∧ c.load ≠ n)
    else c ∈ s.monitor.checks := by
  unfold handOver
  split
  · simp [or_comm]
  · rfl

/-- The part after the pulse `x` has left its slot and the free slots are granted (R79). -/
def slotFreed (s : State) (t : Nat) (x : SlotPulse) : State :=
  { s with
    now := max s.now t
    firing := ({ s.firing with slots := s.firing.slots.erase x }).grant (max s.now t) }

/-- The pulse that ends is the one of its load (R75). -/
theorem endingPulse_eq {f : Firing} (hx : x ∈ f.slots)
    (honly : ∀ y ∈ f.slots, y.load = x.load → y = x) {now : Nat} (hstop : x.stop ≤ now) :
    f.endingPulse x.load now = some x :=
  find_of_only SlotPulse.load (fun y => decide (y.stop ≤ now)) hx honly (by simpa using hstop)

theorem exec_pulseEnd (h : s.rstLow = false) (hx : x ∈ s.firing.slots)
    (honly : ∀ y ∈ s.firing.slots, y.load = x.load → y = x) {t : Nat} (hstop : x.stop ≤ max s.now t) :
    exec (.pulseEnd t x.load) s = .next ((s.slotFreed t x).continueTrain x) := by
  have hend : (s.at t).firing.endingPulse x.load (s.at t).now = some x := endingPulse_eq hx honly hstop
  change execPulseEnd t x.load s = _
  rw [execPulseEnd, takes_high h, hend]
  rfl

end State

/-- Settles O28: the slot is freed and granted, whatever becomes of the train; then the three ways on. -/
theorem pulseEndFreesSlotAndContinues : Obligations.PulseEndFreesSlotAndContinues := by
  intro s t x hr hx honly hstop now next freed granted
  obtain ⟨hslots, hsub, hperm⟩ := grantSlots_exact now freed s.firing.waiting
  have hfiring := State.continueTrain_firing (s.slotFreed t x) x
  have hfiringSlots : ((s.slotFreed t x).continueTrain x).firing.slots =
      freed ++ granted.map (·.start now) := by
    rw [hfiring]
    exact hslots
  have hfiringWaiting : ((s.slotFreed t x).continueTrain x).firing.waiting =
      (grantSlots now freed s.firing.waiting).2 := by
    rw [hfiring]
    rfl
  have hgates : ∀ e ∈ granted, ((s.slotFreed t x).continueTrain x).gate e.load = true := fun e he =>
    State.gate_of_slot (x := e.start now)
      (hfiringSlots ▸ List.mem_append_right _ (List.mem_map_of_mem he))
  refine ⟨_, State.exec_pulseEnd hr hx honly hstop, hfiringSlots, hfiringWaiting ▸ hsub,
    hfiringWaiting ▸ hperm, hgates, fun hlast hwaiting hheld => ?_, fun hnone => ?_,
    fun e es hes he hfull => ?_, ?_, fun hnext hdue => ?_, fun hnext hdue => ?_, fun hlast => ?_⟩
  · rw [State.gate_eq_false_iff, hfiringSlots]
    refine ⟨fun y hy hload => ?_, ?_⟩
    · rcases List.mem_append.1 hy with hy | hy
      · exact hlast (honly y (List.mem_of_mem_erase hy) hload ▸ hy)
      · obtain ⟨e, he, rfl⟩ := List.mem_map.1 hy
        exact hwaiting e (List.mem_of_mem_filter (List.mem_of_mem_take he)) hload
    · rw [hfiring]
      exact hheld
  · rw [hfiringSlots, hfiringWaiting]
    simp only [granted, hnone]
    exact ⟨by simp [freed], rfl⟩
  · have hlen : freed.length = 5 := by rw [List.length_erase_of_mem hx, hfull]
    have hone : Config.slotCount ≤ (freed ++ [e.start now]).length := by simp [hlen]
    have hgrant : grantSlots now freed s.firing.waiting = (freed ++ [e.start now], es) := by
      rw [hes, grantSlots, if_pos ⟨by simp [hlen], he⟩, grantSlots_full hone]
    have hnow : ((s.slotFreed t x).continueTrain x).firing.slots = freed ++ [e.start now] := by
      rw [hfiringSlots]
      exact hslots.symm.trans (congrArg Prod.fst hgrant)
    refine ⟨hnow, by rw [hfiringWaiting, hgrant], State.gate_of_slot (x := e.start now) ?_⟩
    rw [hnow]
    exact List.mem_append_right _ (List.mem_singleton.2 rfl)
  · conv_lhs => rw [hfiring]
    rw [hfiring]
    rfl
  · rw [State.continueTrain_next hnext hdue]
    refine ⟨fun l e => ?_, rfl⟩
    by_cases hl : l = x.line
    · subst hl
      simp [Firing.list, mem_insertBy, State.slotFreed, next, now, or_comm]
    · simp [Firing.list, hl, State.slotFreed]
  · rw [State.continueTrain_late hnext hdue]
    exact ⟨State.skips_skipLoad rfl rfl x.load, rfl, rfl⟩
  · rw [State.continueTrain_last hlast, State.handOver_frame]
    exact ⟨rfl, rfl, fun c => State.mem_checks_handOver, rfl⟩

/-! ## LATEST_START_PASSED -/

/-- The waiting entry that comes too late is the one of its load (R80). -/
theorem Firing.lateEntry_eq {f : Firing} {e : PulseEntry} (he : e ∈ f.waiting)
    (honly : ∀ y ∈ f.waiting, y.load = e.load → y = e) {now : Nat} (hlate : e.latestStart < now) :
    f.lateEntry e.load now = some e :=
  find_of_only PulseEntry.load (fun y => decide (y.latestStart < now)) he honly (by simpa using hlate)

/-- Settles O29. -/
theorem latestStartAbandonsTrain : Obligations.LatestStartAbandonsTrain := by
  intro s t e hr he honly hlate
  have hentry : (s.at t).firing.lateEntry e.load (s.at t).now = some e :=
    Firing.lateEntry_eq he honly hlate
  refine ⟨State.skipLoads { s.at t with
    firing := { s.firing with waiting := s.firing.waiting.erase e } } fun n => n == e.load, ?_,
    State.skips_skipLoad rfl rfl e.load, rfl, rfl⟩
  change execLatestStartPassed t e.load s = _
  rw [execLatestStartPassed, State.takes_high hr, hentry]
  rfl

/-! ## Held drives -/

/-- The held drive that starts is the one listed for its load (R68, R72). -/
theorem Firing.findSome_dueHeld {f : Firing} {l : Line} {e : HeldEntry} {now : Nat}
    (he : .held e ∈ f.lists.get l) (hstart : e.start ≤ now)
    (honly : ∀ l' e', .held e' ∈ f.lists.get l' → e'.load = e.load → e' = e) :
    f.entries.findSome? (FiringEntry.dueHeld now e.load) = some e := by
  cases hfind : f.entries.findSome? (FiringEntry.dueHeld now e.load) with
  | none =>
    have hnone := List.findSome?_eq_none_iff.1 hfind _ (mem_entries.2 ⟨l, he⟩)
    simp [FiringEntry.dueHeld, hstart] at hnone
  | some e' =>
    obtain ⟨x, hx, hxe⟩ := List.exists_of_findSome?_eq_some hfind
    obtain ⟨rfl, hload, -⟩ := dueHeld_eq_some.1 hxe
    obtain ⟨l', hl'⟩ := mem_entries.1 hx
    rw [honly l' e' hl' hload]

theorem exec_heldDriveStart {s : State} (hr : s.rstLow = false) {t : Nat} {l : Line} {e : HeldEntry}
    (he : .held e ∈ s.firing.lists.get l) (hstart : e.start ≤ max s.now t)
    (honly : ∀ l' e', .held e' ∈ s.firing.lists.get l' → e'.load = e.load → e' = e) :
    exec (.heldDriveStart t e.load) s = .next ((s.at t).startHeld e.load e) := by
  have hfind : (s.at t).firing.entries.findSome? (FiringEntry.dueHeld (s.at t).now e.load) = some e :=
    Firing.findSome_dueHeld he hstart honly
  change execHeldDriveStart t e.load s = _
  rw [execHeldDriveStart, State.takes_high hr, hfind]
  rfl

/-- The part after the end of the drive `h`, whose load is judged by the reading (R72, R94). -/
def State.endHeld (s : State) (t : Nat) (h : HeldDrive) (level : Bool) : State :=
  let judged := ((s.at t).sampleSense h.load level).judgeCheck h.load level
  { judged with firing := { judged.firing with held := judged.firing.held.erase h } }

theorem exec_heldDriveEnd {s : State} (hr : s.rstLow = false) {t : Nat} {h : HeldDrive} (level : Bool)
    (hh : h ∈ s.firing.held) (honly : ∀ y ∈ s.firing.held, y.load = h.load → y = h)
    (hstop : h.stop ≤ max s.now t) :
    exec (.heldDriveEnd t h.load level) s = .next (s.endHeld t h level) := by
  have hfind : (s.at t).firing.held.find? (fun y => y.load == h.load && decide (y.stop ≤ (s.at t).now)) =
      some h :=
    find_of_only HeldDrive.load (fun y => decide (y.stop ≤ (s.at t).now)) hh honly (by simpa using hstop)
  change execHeldDriveEnd t h.load level s = _
  rw [execHeldDriveEnd, State.takes_high hr, hfind]
  rfl

namespace State

variable {s : State} {n : LoadIx}

/-! ### The judgement of a load (R95) -/

theorem judgeCheck_off (h : ¬ ((s.load n).state = .active ∧ (s.load n).sensed = true))
    (conducting : Bool) : s.judgeCheck n conducting = s := by
  have hoff : ((s.load n).isActive && (s.load n).sensed) = false := by simpa [Record.isActive] using h
  simp [judgeCheck, hoff]

theorem judgeCheck_conducting (ha : (s.load n).state = .active) (hs : (s.load n).sensed = true) :
    s.judgeCheck n true = s.modifyLoad n fun r => { r with missCount := 0 } := by
  simp [judgeCheck, Record.isActive, ha, hs]

theorem judgeCheck_miss (ha : (s.load n).state = .active) (hs : (s.load n).sensed = true)
    (hm : (s.load n).missCount + 1 < (s.load n).missLimit) :
    s.judgeCheck n false = s.modifyLoad n fun r => { r with missCount := r.missCount + 1 } := by
  simp [judgeCheck, Record.isActive, ha, hs, hm]

theorem judgeCheck_fault (ha : (s.load n).state = .active) (hs : (s.load n).sensed = true)
    (hm : (s.load n).missLimit ≤ (s.load n).missCount + 1) :
    s.judgeCheck n false = s.faultLoads (fun m => m == n) .noConduction := by
  simp [judgeCheck, Record.isActive, ha, hs, Nat.not_lt.2 hm]

/-- A faulted load has no gate activity left (R101). -/
theorem noGateActivity_faultLoads (s : State) {p : LoadIx → Bool} (hp : p n = true) (cause : FaultCause) :
    (s.faultLoads p cause).NoGateActivity n :=
  (noGateActivity_cutLoads (s.mapLoads fun n r => if p n then r.fault cause else r) hp).congr rfl rfl

/-- A fault retires its load, in a part that differs from `s` in timebase, reading and gates at most. -/
theorem retires_faultLoads {s v u : State} (hl : v.loads = s.loads)
    (hq : v.monitor.quiet = s.monitor.quiet) (ha : v.attention = s.attention) (cause : FaultCause)
    (hframe : v = { s with now := v.now, sense := v.sense, firing := v.firing, monitor := v.monitor })
    (hu : u = { v.faultLoads (fun m => m == n) cause with firing := u.firing })
    (hgates : u.NoGateActivity n) : s.Retires u n cause := by
  have hload (m : LoadIx) : u.load m = if m = n then (s.load m).fault cause else s.load m := by
    have hfault := load_faultLoads (s := v) (fun m => m == n) cause m
    rw [load_congr hl] at hfault
    rw [hu]
    simp only [beq_iff_eq] at hfault
    exact hfault
  have hattention : u.attention = s.attention.reportFaults fun m => m == n := by
    rw [hu, ← ha]
    rfl
  refine ⟨?_, fun m hm => ?_, hgates, fun l => ?_, fun m => ?_, ?_, ?_⟩
  · rw [hload, if_pos rfl]
    rfl
  · rw [hload, if_neg hm]
  · have hquiet : u.monitor.quiet.get l = (s.monitor.leaveSamples fun m => m == n).quiet.get l := by
      rw [hu, Monitor.leaveSamples_quiet, ← hq]
      exact Monitor.leaveSamples_quiet ..
    simpa using leaveSample_leaveSamples hquiet
  · rw [hattention]
    simp [Attention.reportFaults, or_comm]
  · rw [hattention]
    rfl
  · rw [hu, hframe]
    rfl

/-- The gate of a load without another pulse or drive is low once its drive is erased. -/
theorem gate_eraseHeld {h : HeldDrive} (hf : s.firing.held.Nodup)
    (honly : ∀ y ∈ s.firing.held, y.load = h.load → y = h)
    (hslots : ∀ x ∈ s.firing.slots, x.load ≠ h.load) :
    gate { s with firing := { s.firing with held := s.firing.held.erase h } } h.load = false := by
  refine gate_eq_false_iff.2 ⟨hslots, fun y hy hload => ?_⟩
  obtain ⟨hne, hy⟩ := hf.mem_erase_iff.1 hy
  exact hne (honly y hy hload)

/-- A load without gate activity has none after a drive is erased. -/
theorem NoGateActivity.eraseHeld (hs : s.NoGateActivity n) (h : HeldDrive) :
    NoGateActivity { s with firing := { s.firing with held := s.firing.held.erase h } } n := by
  obtain ⟨hgate, hwaiting, hlists, hchecks⟩ := hs
  obtain ⟨hslots, hheld⟩ := gate_eq_false_iff.1 hgate
  exact ⟨gate_eq_false_iff.2 ⟨hslots, fun y hy => hheld y (List.mem_of_mem_erase hy)⟩, hwaiting, hlists,
    hchecks⟩

end State

/-- Settles O30. -/
theorem heldDriveStartsAndIsJudgedAtEnd : Obligations.HeldDriveStartsAndIsJudgedAtEnd := by
  constructor
  · intro s t l e hr he hstart honly
    refine ⟨_, exec_heldDriveStart hr he hstart honly, ?_, fun x => ?_, fun l' x => ?_, rfl, rfl⟩
    · exact State.gate_of_held (h := ⟨e.load, e.stop⟩)
        (List.mem_append_right _ (List.mem_singleton.2 rfl))
    · simp [State.startHeld, or_comm]
    · simp [State.startHeld]
  · intro s t h level hr hh honly hnodup hstop hslots r
    let read := (s.at t).sampleSense h.load level
    have hkept {v : State} (hv : read.judgeCheck h.load level = v) (hf : v.firing = s.firing) :
        (s.endHeld t h level).gate h.load = false := by
      have hgate := State.gate_eraseHeld (s := v) (h := h) (hf ▸ hnodup) (hf ▸ honly) (hf ▸ hslots)
      rw [← hv] at hgate
      exact hgate
    have hfaulted (hv : read.judgeCheck h.load level =
        read.faultLoads (fun m => m == h.load) .noConduction) :
        (s.endHeld t h level).NoGateActivity h.load := by
      have hgates := (State.noGateActivity_faultLoads read (n := h.load) (p := fun m => m == h.load)
        (by simp) .noConduction).eraseHeld h
      rw [← hv] at hgates
      exact hgates
    refine ⟨_, exec_heldDriveEnd hr level hh honly hstop, ?_, fun hoff => ?_, fun ha hs hlevel => ?_,
      fun ha hs hlevel hm => ?_, fun ha hs hlevel hm => ?_⟩
    · by_cases hon : r.state = .active ∧ r.sensed = true
      · cases level with
        | true => exact hkept (State.judgeCheck_conducting (s := read) hon.1 hon.2) rfl
        | false =>
          by_cases hm : r.missCount + 1 < r.missLimit
          · exact hkept (State.judgeCheck_miss (s := read) hon.1 hon.2 hm) rfl
          · exact (hfaulted (State.judgeCheck_fault (s := read) hon.1 hon.2 (Nat.not_lt.1 hm))).1
      · exact hkept (State.judgeCheck_off (s := read) hon level) rfl
    · unfold State.endHeld
      rw [State.judgeCheck_off (s := read) hoff level]
      rfl
    · subst hlevel
      unfold State.endHeld
      rw [State.judgeCheck_conducting (s := read) ha hs, State.modifyLoad, Table.modify_eq_set]
      rfl
    · subst hlevel
      unfold State.endHeld
      rw [State.judgeCheck_miss (s := read) ha hs hm, State.modifyLoad, Table.modify_eq_set]
      rfl
    · subst hlevel
      have hfault := State.judgeCheck_fault (s := read) ha hs hm
      refine State.retires_faultLoads (v := read) rfl rfl rfl .noConduction rfl ?_ (hfaulted hfault)
      unfold State.endHeld
      rw [hfault]

end Sys2Proof.Machine
end

section
/-!
SUPPORT. The all-off actions and ALLOFF, the lists, skips and quiet samples of a half-cycle boundary, and
RECALL_SCENE.
-/

namespace Sys2Proof.Machine

/-! ## All off (R85, R87, R89) -/

/-- A ramp goes with an ACTIVE load off its target (R5, R47). -/
theorem Record.Ok.ramp_eq_none {r : Record} (h : r.Ok) (hs : r.state ≠ .active) : r.ramp = none := by
  have hramp := h.rampOk
  obtain ⟨hcurrent, htarget⟩ := h.levels_eq_zero hs
  unfold Record.rampOk at hramp
  cases hr : r.ramp with
  | none => rfl
  | some x =>
    rw [hr] at hramp
    exact absurd (hcurrent.trans htarget.symm) hramp.1

namespace State

variable {s u : State}

/-- The all-off actions on one record: with no ramp left there is no hold to settle. -/
theorem load_takeAllOff (hs : s.RecordsOk) (n : LoadIx) : s.takeAllOff.load n =
    if (s.load n).state = .active then
      { s.load n with state := .defined, currentLevel := 0, targetLevel := 0, ramp := none }
    else s.load n := by
  let off : Record := if (s.load n).isActive then (s.load n).leaveActive .defined else s.load n
  have hramp : off.ramp = none := by
    by_cases ha : (s.load n).state = .active
    · simp [off, Record.isActive, ha, Record.leaveActive]
    · simpa [off, Record.isActive, ha] using (hs n).ramp_eq_none ha
  have hload (v : State) (hv : v.load n = off) : (v.stopHolds fun _ => true).load n = off := by
    rw [load_stopHolds, hv, hramp]
  refine (hload _ (by exact Table.get_mapIx _ _ _)).trans ?_
  by_cases ha : (s.load n).state = .active <;> simp [off, Record.isActive, ha, Record.leaveActive]

/-- A part whose gates, checks, records and slots are those of the all-off actions. -/
theorem takenOff_of_takeAllOff (hs : s.RecordsOk) (hf : u.firing = .reset u.firing.inhibit)
    (hm : u.monitor = s.takeAllOff.monitor) (hl : u.loads = s.takeAllOff.loads)
    (hk : u.link = s.takeAllOff.link) : s.TakenOff u := by
  refine ⟨fun n => ?_, hf, hm, fun n => ?_, ?_, fun i => ?_⟩
  · rw [gate_eq_false_iff, hf]
    simp [Firing.reset]
  · exact (load_congr hl n).trans (load_takeAllOff hs n)
  · rw [hk]
    rfl
  · have hslot : u.slot i = s.takeAllOff.slot i := by rw [slot, hk, ← slot]
    rw [hslot, takeAllOff, slot_stopHolds, if_pos rfl]
    rfl

end State

/-- Settles O16. -/
theorem alloffAssertionTakesLoadsOff : Obligations.AlloffAssertionTakesLoadsOff := by
  intro s t hs hr ha
  refine ⟨_, ?_, State.takenOff_of_takeAllOff (u := { State.takeAllOff { s.at t with allOff := true } with
    firing := .reset true
    attention := s.attention.reportSafety fun d => { d with allOffAsserted := true } }) hs rfl rfl rfl rfl,
    rfl, rfl⟩
  exact if_neg (by simp [hr, ha])

/-- Settles O17. -/
theorem alloffReleaseRestoresNothing : Obligations.AlloffReleaseRestoresNothing := by
  intro s t hr ha
  exact if_neg (by simp [hr, ha])

/-- Settles O58. -/
theorem allOffCommandTakesLoadsOff : Obligations.AllOffCommandTakesLoadsOff := by
  intro s t hs h
  have hok : allOff [] (s.at t) = .ok ({ (s.at t).takeAllOff with
    attention := s.attention.reportSafety fun d => { d with allOffCommand := true } }, []) := rfl
  refine ⟨_, h.exec_ok (c := .allOff t) (fun _ => rfl) rfl rfl hok, ?_, rfl, rfl, rfl⟩
  exact State.takenOff_of_takeAllOff hs rfl rfl rfl rfl

/-! ## The list of a boundary (R68 to R74) -/

namespace State

variable {s : State} {b : Boundary}

/-- The list a boundary leaves is made of the records as it leaves them. -/
theorem lists_announce (s : State) (b : Boundary) :
    (s.announce b).firing.lists.get b.line = (s.announce b).firingList b := by
  rw [announce_eq]
  exact PerLine.get_set_self ..

/-- A load has at most one entry in the list of a half-cycle. -/
theorem firingList_loads : (s.firingList b).Pairwise fun x y => x.load ≠ y.load := by
  refine ((foldr_insertBy_perm FiringEntry.key _).pairwise_iff fun h => h.symm).2 ?_
  refine List.Pairwise.filterMap _ (fun n m hnm x hx y hy => ?_) (List.nodup_finRange 24)
  obtain ⟨_, -, -, -, -, hfires⟩ := Boundary.entry_eq_some.1 hx
  obtain ⟨_, -, -, -, -, hfires'⟩ := Boundary.entry_eq_some.1 hy
  rw [hfires.load_line.1, hfires'.load_line.1]
  exact hnm

theorem firingList_ordered : (s.firingList b).Pairwise fun x y =>
    x.time < y.time ∨ (x.time = y.time ∧ x.load < y.load) := by
  have hordered : Ordered FiringEntry.key (s.firingList b) := ordered_foldr_insertBy _ _
  refine (hordered.and firingList_loads).imp fun {x y} ⟨hle, hne⟩ => hle.imp_right fun ⟨htime, hload⟩ => ?_
  exact ⟨htime, lt_of_le_of_ne hload hne⟩

end State

/-- Settles O24: each entry is the one that the mode of its load gives. -/
theorem boundaryListsEveryFiring : Obligations.BoundaryListsEveryFiring := by
  intro s b u start h
  have hlist : u.firing.lists.get b.line = u.firingList b := s.lists_announce b
  rw [hlist]
  refine ⟨fun e => State.mem_firingList.trans (exists_congr fun n => ?_), State.firingList_ordered⟩
  exact Boundary.entry_eq_some

/-! ## The dropped list and the quiet sample of a boundary (R41, R69, R98) -/

namespace Record

variable (r : Record)

@[simp] theorem rampStep_skipCount : r.rampStep.skipCount = r.skipCount := by rw [rampStep_eq]

@[simp] theorem decideBurst_skipCount : r.decideBurst.skipCount = r.skipCount := by rw [decideBurst_eq]

end Record

namespace State

variable {s : State} {b : Boundary}

/-- A dropped list abandons the trains whose pulse is still in it, and no others (R69). -/
theorem skips_dropList (s : State) (l : Line) :
    s.Skips (s.dropList l) fun n => ∃ e, .pulse e ∈ s.firing.lists.get l ∧ e.load = n := by
  refine skips_skipLoads (v := s) rfl rfl fun n => ?_
  rw [List.any_eq_true]
  constructor
  · rintro ⟨x, hx, hn⟩
    cases x with
    | held e => simp at hn
    | pulse e => exact ⟨e, hx, by simpa using hn⟩
  · rintro ⟨e, he, rfl⟩
    exact ⟨.pulse e, he, by simp⟩

/-- A boundary up to the drop of the old list: members applied, ramps stepped, BURST decided (R111). -/
def stepped (s : State) (b : Boundary) : State :=
  ((s.applyMembers (s.waitsOn b.line)).stepRamps b.line).decideBursts b

theorem load_announce_dropList (s : State) (b : Boundary) (n : LoadIx) :
    (s.announce b).load n = ((s.stepped b).dropList b.line).load n := rfl

theorem skipCount_stepped (s : State) (b : Boundary) (n : LoadIx) :
    ((s.stepped b).load n).skipCount = (s.load n).skipCount := by
  have happly : ((s.applyMembers (s.waitsOn b.line)).load n).skipCount = (s.load n).skipCount := by
    rw [load_applyMembers]
    split <;> simp
  rw [← happly, stepped, load_decideBursts, load_stepRamps]
  split <;> split <;> simp

/-- The entries of the old list that are left to drop: the apply has cut those of the loads it moves. -/
theorem mem_lists_stepped {x : FiringEntry} : x ∈ (s.stepped b).firing.lists.get b.line ↔
    x ∈ s.firing.lists.get b.line ∧
      ¬ (s.waitsOn b.line x.load = true ∧ (s.load x.load).changesLine = true) := by
  have hfiring : (s.stepped b).firing = (s.applyMembers (s.waitsOn b.line)).firing := rfl
  rw [hfiring, applyMembers_firing, Firing.grant_lists, Firing.mem_remove_lists, ← Bool.and_eq_true,
    Bool.not_eq_true]

theorem skip_stepped (s : State) (b : Boundary) : (s.stepped b).attention.skip = s.attention.skip := by
  have hattention : (s.stepped b).attention = (s.applyMembers (s.waitsOn b.line)).attention := rfl
  rw [hattention, applyMembers_details]

/-- The quiet sample of the line after a boundary (R41, R98). -/
theorem quiet_announce (s : State) (b : Boundary) : (s.announce b).monitor.quiet.get b.line =
    if b.declared then
      some ⟨b.time + b.frontGuard / 2, loadsWhere fun n => ((s.announce b).load n).samples b.line⟩
    else none := by
  rw [announce_eq]
  exact PerLine.get_set_self ..

end State

/-- Settles O25. -/
theorem boundaryDropsOldListAndSamples : Obligations.BoundaryDropsOldListAndSamples := by
  intro s b u dropped
  obtain ⟨hskipped, hkept, hdetail, -⟩ := (s.stepped b).skips_dropList b.line
  have hdropped (n : LoadIx) :
      (∃ e, .pulse e ∈ (s.stepped b).firing.lists.get b.line ∧ e.load = n) ↔ dropped n := by
    simp only [State.mem_lists_stepped]
    constructor
    · rintro ⟨e, ⟨he, hstays⟩, rfl⟩
      exact ⟨⟨e, he, rfl⟩, hstays⟩
    · rintro ⟨⟨e, he, rfl⟩, hstays⟩
      exact ⟨e, ⟨he, hstays⟩, rfl⟩
  refine ⟨fun n hn => ?_, fun n hn => ?_, fun n => ?_, fun hd => ?_, fun hd => ?_⟩
  · rw [State.load_announce_dropList, hskipped n ((hdropped n).2 hn), State.skipCount_stepped]
  · rw [State.load_announce_dropList, hkept n (mt (hdropped n).1 hn), State.skipCount_stepped]
  · rw [← hdropped n, ← State.skip_stepped s b]
    exact hdetail n
  · rw [State.quiet_announce, hd]
    rfl
  · refine ⟨_, (State.quiet_announce s b).trans (if_pos hd), fun n => ?_⟩
    rw [hasLoad_loadsWhere]
    exact Record.samples_iff

/-! ## RECALL_SCENE (R130, R131) -/

/-- The override of a RECALL_SCENE payload reads back as it was sent (R186). -/
theorem overrideAt_sent (b : Byte) {present : Bool} {override : Nat} (hlt : override < 65536)
    (hle : present = true → override ≤ 6000) :
    overrideAt (b :: flagByte present :: word override) = some (if present then some override else none) := by
  have hword : wordAt (b :: flagByte present :: word override) 2 = override := by
    simpa using wordAt_word hlt []
  have hbool : boolAt (b :: flagByte present :: word override) 1 =
      some present := boolAt_flagByte present (word override)
  cases present with
  | false => simp [overrideAt, hbool]
  | true => simp [overrideAt, hbool, hword, hle rfl]

section recallScene

variable {p : List Byte} {s : State} {n : SceneIx} {fade : Option Nat}

theorem recallScene_inhibited (hn : indexAt 32 p 0 = some n) (hf : overrideAt p = some fade)
    (hi : s.firing.inhibit = true) : recallScene p s = .error .inhibited := by
  simp [recallScene, hn, hf, hi]

theorem recallScene_undefined (hn : indexAt 32 p 0 = some n) (hf : overrideAt p = some fade)
    (hi : s.firing.inhibit = false) (hc : s.scenes.scenes.get n = none) :
    recallScene p s = .error .state := by
  simp [recallScene, hn, hf, hi, hc, present]

theorem recallScene_ok {c : Scene} (hn : indexAt 32 p 0 = some n) (hf : overrideAt p = some fade)
    (hi : s.firing.inhibit = false) (hc : s.scenes.scenes.get n = some c) :
    recallScene p s = .ok (s.recallScene n c.entries (fade.getD c.fade) .controlPort,
      [byte (s.appliedCount c.entries .controlPort),
        byte (c.entries.length - s.appliedCount c.entries .controlPort)]) := by
  simp [recallScene, hn, hf, hi, hc, present]

end recallScene

/-- The Control Port recalls the ACTIVE loads (R131). -/
theorem Record.recallable_controlPort_iff {r : Record} :
    r.recallable .controlPort = true ↔ r.state = .active := Record.isActive_iff

/-- Settles O54. -/
theorem recallSceneClaimsActiveLoads : Obligations.RecallSceneClaimsActiveLoads := by
  intro s t n present override hlt hle h
  have hn : indexAt 32 (byte n.val :: flagByte present :: word override) 0 = some n :=
    indexAt_byte n (by decide) _
  have hf := overrideAt_sent (byte n.val) hlt hle
  cases hi : s.firing.inhibit with
  | true =>
    obtain ⟨u, hu, hrefuses⟩ := h.exec_error (c := .recallScene t) (fun _ => rfl) rfl rfl
      (recallScene_inhibited (s := s.at t) hn hf hi)
    exact ⟨u, hu, fun _ => hrefuses, by simp, by simp⟩
  | false =>
    cases hc : s.scenes.scenes.get n with
    | none =>
      obtain ⟨u, hu, hrefuses⟩ := h.exec_error (c := .recallScene t) (fun _ => rfl) rfl rfl
        (recallScene_undefined (s := s.at t) hn hf hi hc)
      exact ⟨u, hu, by simp, fun _ _ => hrefuses, by simp⟩
    | some c =>
      refine ⟨_, h.exec_ok (fun _ => rfl) rfl rfl (recallScene_ok (s := s.at t) hn hf hi hc), by simp,
        by simp, ?_⟩
      rintro c' - ⟨⟩ hnodup fade applied
      have hfade : (if present then some override else none : Option Nat).getD c.fade = fade := by
        cases present <;> rfl
      have happlied : (s.at t).appliedCount c.entries .controlPort = applied := by
        rw [State.appliedCount, List.countP_eq_length_filter]
        rfl
      refine ⟨fun e he ha => ?_, fun m hm => ?_, ?_, rfl⟩
      · rw [← Record.claim_eq_claimed, ← hfade]
        exact (s.at t).load_recallScene_of_mem hnodup he (Record.recallable_controlPort_iff.2 ha)
      · refine (s.at t).load_recallScene_of_not fun ⟨ha, he⟩ => hm ⟨?_, he⟩
        exact Record.recallable_controlPort_iff.1 ha
      · rw [happlied]
        rfl

end Sys2Proof.Machine
end

section
/-!
SUPPORT. The events of conduction monitoring: a post-firing check that falls due, and a quiet sample.
-/

namespace Sys2Proof.Machine

/-! ## POST_FIRING_CHECK -/

namespace State

variable {s : State} {n : LoadIx} {c : PendingCheck}

/-- The part with the check `c` off its list and S n read, before the judgement (R93, R95). -/
def checkTaken (s : State) (t : Nat) (c : PendingCheck) (level : Bool) : State :=
  sampleSense { s.at t with monitor := { s.monitor with checks := s.monitor.checks.erase c } } c.load level

/-- The check that falls due is the one of its load. -/
theorem exec_postFiringCheck (hr : s.rstLow = false) (hc : c ∈ s.monitor.checks)
    (honly : ∀ y ∈ s.monitor.checks, y.load = c.load → y = c) {t : Nat} (hdue : c.due ≤ max s.now t)
    (level : Bool) : exec (.postFiringCheck t c.load level) s =
      .next ((s.checkTaken t c level).judgeCheck c.load level) := by
  have hfind : (s.at t).monitor.dueCheck c.load (s.at t).now = some c :=
    find_of_only PendingCheck.load (fun y => decide (y.due ≤ (s.at t).now)) hc honly (by simpa using hdue)
  change execPostFiringCheck t c.load level s = _
  rw [execPostFiringCheck, takes_high hr, hfind]
  rfl

/-- A load's only check leaves no check of it behind. -/
theorem load_ne_of_mem_checkTaken (honly : ∀ y ∈ s.monitor.checks, y.load = c.load → y = c)
    (hnodup : s.monitor.checks.Nodup) {t : Nat} {level : Bool} {y : PendingCheck}
    (hy : y ∈ (s.checkTaken t c level).monitor.checks) : y.load ≠ c.load := by
  obtain ⟨hne, hmem⟩ := hnodup.mem_erase_iff.1 hy
  exact fun hload => hne (honly y hmem hload)

/-- A judgement adds no pending check. -/
theorem mem_checks_of_judgeCheck {conducting : Bool} {y : PendingCheck}
    (hy : y ∈ (s.judgeCheck n conducting).monitor.checks) : y ∈ s.monitor.checks := by
  unfold judgeCheck at hy
  dsimp only at hy
  split at hy
  · split at hy
    · exact hy
    · split at hy
      · exact hy
      · exact List.mem_of_mem_filter hy
  · exact hy

end State

/-- Settles O31. -/
theorem dueCheckClearsRaisesOrFaults : Obligations.DueCheckClearsRaisesOrFaults := by
  intro s t c level hr hc honly hnodup hdue r left
  let taken := s.checkTaken t c level
  refine ⟨_, State.exec_postFiringCheck hr hc honly hdue level, fun y hy => ?_, fun hoff => ?_,
    fun ha hs hlevel => ?_, fun ha hs hlevel hm => ?_, fun ha hs hlevel hm => ?_⟩
  · exact State.load_ne_of_mem_checkTaken honly hnodup (State.mem_checks_of_judgeCheck hy)
  · rw [State.judgeCheck_off (s := taken) hoff level]
    rfl
  · subst hlevel
    rw [State.judgeCheck_conducting (s := taken) ha hs, State.modifyLoad, Table.modify_eq_set]
    rfl
  · subst hlevel
    rw [State.judgeCheck_miss (s := taken) ha hs hm, State.modifyLoad, Table.modify_eq_set]
    rfl
  · subst hlevel
    rw [State.judgeCheck_fault (s := taken) ha hs hm]
    exact State.retires_faultLoads (v := taken) rfl rfl rfl .noConduction rfl rfl
      (State.noGateActivity_faultLoads taken (by simp) .noConduction)

/-! ## QUIET_SAMPLE -/

namespace Record

variable {r : Record}

theorem stuck_iff {conducting : Bool} : r.stuck conducting = true ↔
    conducting = true ∧ r.missLimit ≤ r.stuckCount + 1 := by
  simp [stuck]

theorem judgeQuiet_below (h : r.stuckCount + 1 < r.missLimit) :
    r.judgeQuiet true = { r with stuckCount := r.stuckCount + 1 } := by
  simp [judgeQuiet, h]

/-- The reading that faults a load counts nothing. -/
theorem judgeQuiet_of_stuck {conducting : Bool} (h : r.stuck conducting = true) :
    r.judgeQuiet conducting = r := by
  obtain ⟨rfl, hm⟩ := stuck_iff.1 h
  simp [judgeQuiet, Nat.not_lt.2 hm]

end Record

namespace State

variable {s : State} {n : LoadIx} {l : Line} {set : LoadSet}

/-- A quiet sample of line `l` on the loads of `set` judges load `n` (R99). -/
def judgesQuiet (s : State) (l : Line) (set : LoadSet) (n : LoadIx) : Bool :=
  hasLoad set n && (s.load n).samples l

theorem judgesQuiet_iff : s.judgesQuiet l set n = true ↔ hasLoad set n = true ∧
    ((s.load n).state = .active ∨ (s.load n).state = .defined) ∧
    (s.load n).onLine l = true ∧ (s.load n).sensed = true := by
  simp [judgesQuiet, Record.samples_iff]

/-- It faults load `n` (R99, R101). -/
def faultsQuiet (s : State) (l : Line) (set : LoadSet) (n : LoadIx) : Bool :=
  s.judgesQuiet l set n && (s.load n).stuck (hasLoad s.sense n)

theorem faultsQuiet_iff : s.faultsQuiet l set n = true ↔ s.judgesQuiet l set n = true ∧
    hasLoad s.sense n = true ∧ (s.load n).missLimit ≤ (s.load n).stuckCount + 1 := by
  simp [faultsQuiet, Record.stuck_iff]

/-- A quiet sample counts on the loads it judges, and then faults those that are stuck. -/
theorem sampleQuiet_eq (s : State) (l : Line) (set : LoadSet) : s.sampleQuiet l set =
    (s.mapLoads fun n r => if s.judgesQuiet l set n then r.judgeQuiet (hasLoad s.sense n) else r).faultLoads
      (s.faultsQuiet l set) .stuckOn := rfl

theorem load_sampleQuiet_stuck (h : s.faultsQuiet l set n = true) :
    (s.sampleQuiet l set).load n = (s.load n).fault .stuckOn := by
  obtain ⟨hjudged, hstuck⟩ := Bool.and_eq_true_iff.1 h
  rw [sampleQuiet_eq, load_faultLoads, if_pos h, load_mapLoads, if_pos hjudged,
    Record.judgeQuiet_of_stuck hstuck]

theorem load_sampleQuiet_judged (hjudged : s.judgesQuiet l set n = true)
    (h : ¬ s.faultsQuiet l set n = true) :
    (s.sampleQuiet l set).load n = (s.load n).judgeQuiet (hasLoad s.sense n) := by
  rw [sampleQuiet_eq, load_faultLoads, if_neg h, load_mapLoads, if_pos hjudged]

theorem load_sampleQuiet_other (h : ¬ s.judgesQuiet l set n = true) :
    (s.sampleQuiet l set).load n = s.load n := by
  rw [sampleQuiet_eq, load_faultLoads, if_neg (mt (fun hf => (faultsQuiet_iff.1 hf).left) h), load_mapLoads,
    if_neg h]

theorem noGateActivity_sampleQuiet (h : s.faultsQuiet l set n = true) :
    (s.sampleQuiet l set).NoGateActivity n := noGateActivity_faultLoads _ h .stuckOn

theorem sampleQuiet_quiet (s : State) (l : Line) (set : LoadSet) :
    (s.sampleQuiet l set).monitor.quiet = (s.monitor.leaveSamples (s.faultsQuiet l set)).quiet := rfl

theorem sampleQuiet_attention (s : State) (l : Line) (set : LoadSet) :
    (s.sampleQuiet l set).attention = s.attention.reportFaults (s.faultsQuiet l set) := rfl

/-- The part with the sense inputs read and the sample of line `l` gone, before the judgement (R99). -/
def quietTaken (s : State) (t : Nat) (l : Line) (levels : LoadSet) : State :=
  { s.at t with
    sense := levels
    monitor := { s.monitor with quiet := s.monitor.quiet.set l none } }

theorem exec_quietSample (hr : s.rstLow = false) {q : QuietSample} (hq : s.monitor.quiet.get l = some q)
    {t : Nat} (htime : q.time ≤ max s.now t) (levels : LoadSet) :
    exec (.quietSample t l levels) s = .next ((s.quietTaken t l levels).sampleQuiet l q.loads) := by
  have hget : (s.at t).monitor.quiet.get l = some q := hq
  change execQuietSample t l levels s = _
  rw [execQuietSample, takes_high hr, hget]
  exact congrArg Host.Outcome.next (if_pos htime)

end State

/-- Settles O32: judged and faulted loads are those of the part with the sample taken, whose records are
still those of `s`. -/
theorem quietSampleJudgesEachLoad : Obligations.QuietSampleJudgesEachLoad := by
  intro s t l levels q hr hq htime judged atLimit
  let taken := s.quietTaken t l levels
  have hjudged (n : LoadIx) : taken.judgesQuiet l q.loads n = true ↔ judged n := State.judgesQuiet_iff
  have hlimit (n : LoadIx) : taken.faultsQuiet l q.loads n = true ↔ atLimit n :=
    State.faultsQuiet_iff.trans (and_congr_left' (hjudged n))
  refine ⟨_, State.exec_quietSample hr hq htime levels, ?_, fun m hm => ?_, fun n hn => ?_,
    fun n hn hquiet => ?_, fun n hn hlevel hm => ?_, fun n hn => ?_, fun n => ?_, rfl, rfl⟩
  · rw [State.sampleQuiet_quiet, Monitor.leaveSamples_quiet]
    simp [State.quietTaken]
  · have hleave : s.LeaveSample (taken.sampleQuiet l q.loads) m (taken.faultsQuiet l q.loads · = true) := by
      refine State.leaveSample_leaveSamples ?_
      rw [State.sampleQuiet_quiet, Monitor.leaveSamples_quiet, Monitor.leaveSamples_quiet]
      simp [taken, State.quietTaken, hm]
    simpa only [hlimit] using hleave
  · exact State.load_sampleQuiet_other (mt (hjudged n).1 hn)
  · have hkept : ¬ taken.faultsQuiet l q.loads n = true := fun hf =>
      have ⟨_, hlevel, _⟩ := (hlimit n).1 hf
      Bool.false_ne_true (hquiet.symm.trans hlevel)
    have hload := State.load_sampleQuiet_judged ((hjudged n).2 hn) hkept
    rwa [show hasLoad taken.sense n = false from hquiet] at hload
  · have hkept : ¬ taken.faultsQuiet l q.loads n = true := fun hf =>
      have ⟨_, _, hle⟩ := (hlimit n).1 hf
      Nat.not_le.2 hm hle
    have hload := State.load_sampleQuiet_judged ((hjudged n).2 hn) hkept
    rw [show hasLoad taken.sense n = true from hlevel] at hload
    exact hload.trans (Record.judgeQuiet_below hm)
  · have hfaults := (hlimit n).2 hn
    exact ⟨State.noGateActivity_sampleQuiet hfaults, State.load_sampleQuiet_stuck hfaults⟩
  · rw [← hlimit, State.sampleQuiet_attention]
    simp [Attention.reportFaults, taken, State.quietTaken, or_comm]

end Sys2Proof.Machine
end

section
/-!
SUPPORT. What a step keeps of the commit set (`State.CommitOk`): the operations that touch it or its
members, then the commands one by one.
-/

namespace Sys2Proof.Machine

/-! ## Records whose place in the commit set is kept -/

/-- From `r` to `v` a member may go on waiting: configuration and copy are kept, and the load is not
released. -/
structure Record.SameCopy (r v : Record) : Prop where
  config : v.config = r.config
  staged : v.staged = r.staged
  inUse : r.state ≠ .vacant → v.state ≠ .vacant

namespace Record

variable {r v : Record}

theorem SameCopy.refl (r : Record) : SameCopy r r := ⟨rfl, rfl, id⟩

/-- A change within one state. -/
theorem sameCopy_of_eq (hc : v.config = r.config) (hd : v.staged = r.staged) (hs : v.state = r.state) :
    SameCopy r v := ⟨hc, hd, by simp [hs]⟩

/-- A change of state that is no release. -/
theorem sameCopy_of_inUse (hc : v.config = r.config) (hd : v.staged = r.staged) (hs : v.state ≠ .vacant) :
    SameCopy r v := ⟨hc, hd, fun _ => hs⟩

theorem sameCopy_claim (r : Record) (target fade p : Nat) (origin : Origin) :
    SameCopy r (r.claim target fade p origin) :=
  sameCopy_of_eq (claim_config ..) (claim_staged ..) (claim_state ..)

theorem sameCopy_fault (r : Record) (cause : FaultCause) : SameCopy r (r.fault cause) :=
  sameCopy_of_inUse rfl rfl (by simp [fault, leaveActive])

@[simp] theorem judgeQuiet_staged (conducting : Bool) : (r.judgeQuiet conducting).staged = r.staged := by
  unfold judgeQuiet
  split
  · split <;> rfl
  · rfl

/-- The ramp step and the BURST decision of a boundary. -/
theorem sameCopy_atBoundary (r : Record) (b : Boundary) : SameCopy r (r.atBoundary b) := by
  unfold atBoundary
  dsimp only
  refine sameCopy_of_eq ?_ ?_ ?_ <;> split <;> split <;> simp

/-- A record is on one line at most. -/
theorem onLine_unique {l m : Line} (hl : r.onLine l = true) (hm : r.onLine m = true) :
    l = m := by
  simp only [onLine, decide_eq_true_eq] at hl hm
  exact Option.some.inj (hl.symm.trans hm)

end Record

namespace State

variable {s u v : State} {p : LoadIx → Bool}

/-! ## The commit set -/

theorem MemberOk.mono {m : Member} (h : s.MemberOk m) (hl : (s.load m.load).SameCopy (u.load m.load))
    (ht : s.tracks m.line = true → u.tracks m.line = true) : u.MemberOk m := by
  obtain ⟨hstaged, hstate, hline, htrack⟩ := h
  exact ⟨by rwa [hl.staged], hl.inUse hstate, by rwa [Record.onLine, hl.config], ht htrack⟩

/-- The commit set is sound but for the loads of `p`, which are about to be applied. -/
structure CommitOkBut (s : State) (p : LoadIx → Bool) : Prop where
  idle : s.commit.state = .idle → s.commit.members = []
  ascending : (s.commit.members.map (·.load)).Pairwise (· < ·)
  waiting : ∀ m ∈ s.commit.members, p m.load = false → s.MemberOk m

theorem CommitOk.but (h : s.CommitOk) (p : LoadIx → Bool) : s.CommitOkBut p :=
  ⟨h.1.1, h.2.1, fun m hm _ => h.2.2 m hm⟩

/-- An apply leaves a sound set: the loads of `p` leave it, and a set that becomes empty goes with IDLE
(R113, R116, R121). -/
theorem CommitOkBut.applyMembers (h : s.CommitOkBut p) : (s.applyMembers p).CommitOk := by
  refine ⟨?_, ?_, fun m hm => ?_⟩
  · rw [applyMembers_members]
    rcases applyMembers_completes s p with ⟨-, hempty, hidle, -⟩ | ⟨hnot, hstate, -⟩
    · exact ⟨fun _ => hempty, fun _ => hidle⟩
    · rw [hstate]
      refine ⟨fun hidle => by rw [h.idle hidle]; rfl, fun hempty => ?_⟩
      cases hs : s.commit.state with
      | idle => rfl
      | pending => exact absurd ⟨hs, hempty⟩ hnot
  · rw [applyMembers_members]
    exact h.ascending.sublist (List.filter_sublist.map _)
  · rw [applyMembers_members, List.mem_filter, Bool.not_eq_true'] at hm
    refine (h.waiting m hm.1 hm.2).mono ?_ (by simp [tracks])
    rw [load_applyMembers, hm.2]
    exact .refl _

/-! ## What is kept from state to state -/

/-- From `s` to `u` the rules of the commit set are kept. -/
structure KeepsCommit (s u : State) : Prop where
  commitOk : s.CommitOk → u.CommitOk

theorem KeepsCommit.refl (s : State) : KeepsCommit s s := ⟨id⟩

theorem KeepsCommit.trans (h : KeepsCommit s u) (h' : KeepsCommit u v) : KeepsCommit s v :=
  ⟨h'.commitOk ∘ h.commitOk⟩

/-- The Commit Unit is left alone, tracked lines stay tracked, and the members may go on waiting. -/
theorem KeepsCommit.of_members (hc : u.commit = s.commit)
    (ht : ∀ l, s.tracks l = true → u.tracks l = true)
    (hl : ∀ m ∈ s.commit.members, s.MemberOk m → (s.load m.load).SameCopy (u.load m.load)) :
    KeepsCommit s u := by
  refine ⟨fun ⟨hidle, hascending, hwaiting⟩ => ?_⟩
  unfold CommitOk
  rw [hc]
  exact ⟨hidle, hascending, fun m hm => (hwaiting m hm).mono (hl m hm (hwaiting m hm)) (ht m.line)⟩

theorem KeepsCommit.of_records (hc : u.commit = s.commit) (ht : u.trackers = s.trackers)
    (hl : ∀ n, (s.load n).SameCopy (u.load n)) : KeepsCommit s u :=
  .of_members hc (fun l h => by simpa only [tracks, ht] using h) fun m _ _ => hl m.load

/-- Whatever leaves the Commit Unit, the records and the trackers alone. -/
theorem KeepsCommit.frame (hc : u.commit = s.commit) (hl : u.loads = s.loads)
    (ht : u.trackers = s.trackers) : KeepsCommit s u :=
  .of_records hc ht fun n => (load_congr hl n).symm ▸ .refl _

/-- A reset leaves an empty set (R119). -/
theorem KeepsCommit.reset (h : u.commit = .reset) : KeepsCommit s u :=
  ⟨fun _ => by simp [CommitOk, h, CommitUnit.reset]⟩

theorem keepsCommit_modifyLoad {n : LoadIx} {f : Record → Record}
    (h : (s.load n).SameCopy (f (s.load n))) : KeepsCommit s (s.modifyLoad n f) := by
  refine .of_records rfl rfl fun m => ?_
  by_cases hm : m = n
  · subst hm
    rwa [load_modifyLoad_self]
  · rw [load_modifyLoad_ne s hm]
    exact .refl _

/-- A load that is no member may be given any record. -/
theorem keepsCommit_modifyOther {n : LoadIx} (f : Record → Record)
    (h : ∀ m ∈ s.commit.members, s.MemberOk m → m.load ≠ n) : KeepsCommit s (s.modifyLoad n f) := by
  refine .of_members rfl (fun _ => id) fun m hm hok => ?_
  rw [load_modifyLoad_ne s (h m hm hok)]
  exact .refl _

theorem ne_of_isMember {n : LoadIx} (h : s.isMember n = false) {m : Member} (hm : m ∈ s.commit.members) :
    m.load ≠ n := by
  simpa using List.any_eq_false.1 h m hm

theorem keepsCommit_mapLoads {f : LoadIx → Record → Record}
    (h : ∀ n, (s.load n).SameCopy (f n (s.load n))) : KeepsCommit s (s.mapLoads f) :=
  .of_records rfl rfl fun n => by
    rw [load_mapLoads]
    exact h n

theorem keepsCommit_applyMembers (p : LoadIx → Bool) : KeepsCommit s (s.applyMembers p) :=
  ⟨fun h => (h.but p).applyMembers⟩

/-! ## Trackers that move -/

/-- A boundary applies the members waiting on its line and leaves the other members as they are (R111). -/
theorem keepsCommit_announce (b : Boundary) : KeepsCommit s (s.announce b) := by
  refine (keepsCommit_applyMembers (s.waitsOn b.line)).trans (.of_records ?_ (by simp) fun n => ?_)
  · simp [announce_eq, dropList]
  · obtain ⟨skips, hload⟩ := s.load_announce b n
    rw [hload, load_applyMembers]
    generalize (if s.waitsOn b.line n then (s.load n).applyStaged else s.load n) = r
    obtain ⟨hconfig, hstaged, hstate⟩ := r.sameCopy_atBoundary b
    exact ⟨hconfig, hstaged, hstate⟩

/-- A tracker that keeps its line tracked. -/
theorem keepsCommit_setTracker {l : Line} {x : Tracker}
    (h : s.tracks l = true → x.lock.track.isSome = true) (a : Attention) :
    KeepsCommit s { s with trackers := s.trackers.set l x, attention := a } := by
  refine .of_members rfl (fun m hm => ?_) fun _ _ _ => .refl _
  by_cases hml : m = l
  · subst hml
    simpa [tracks] using h hm
  · simpa [tracks, hml] using hm

/-- A line that is lost with its tracker: the members waiting on it are applied, and the lines of the others
are as tracked as before (R42, R121). -/
theorem keepsCommit_loseLine (l : Line) (x : Tracker) :
    KeepsCommit s ({ s with trackers := s.trackers.set l x }.loseLine l) := by
  refine ⟨fun ⟨hidle, hascending, hwaiting⟩ => ?_⟩
  rw [loseLine_eq]
  refine CommitOkBut.applyMembers ⟨hidle.1, hascending, fun m hm hw => ?_⟩
  have hline : m.line ≠ l := by
    rintro rfl
    exact Bool.eq_false_iff.1 hw (waitsOn_iff.2 hm)
  exact (hwaiting m hm).mono (.refl _) fun ht => by simpa [tracks, dropLine, hline] using ht

/-- A move either loses its line or keeps it tracked. -/
theorem keepsCommit_moveTracker (l : Line) {m : Move}
    (hkeep : m.event = some .lost ∨ (s.tracks l = true → m.tracker.lock.track.isSome = true)) :
    KeepsCommit s (s.moveTracker l m) := by
  have hevent : KeepsCommit s ({ s with trackers := s.trackers.set l m.tracker }.lineEvent l m.event) := by
    by_cases hlost : m.event = some .lost
    · rw [hlost]
      exact keepsCommit_loseLine l m.tracker
    · have hset := keepsCommit_setTracker (hkeep.resolve_left hlost)
      cases he : m.event with
      | none => exact hset _
      | some e =>
        cases e with
        | locked => exact hset _
        | holdoverEntered => exact hset _
        | lost => exact absurd he hlost
  unfold moveTracker
  dsimp only
  split
  · exact hevent
  · exact hevent.trans (keepsCommit_announce _)

theorem keepsCommit_edge (l : Line) (t : Nat) (level : Bool) :
    KeepsCommit s (s.moveTracker l ((s.trackers.get l).edge s.lineConfig t level)) :=
  keepsCommit_moveTracker l (.inr ((s.trackers.get l).edge_keeps s.lineConfig t level).1)

theorem keepsCommit_windowClose (l : Line) (t : Nat) :
    KeepsCommit s (s.moveTracker l ((s.trackers.get l).windowClose s.lineConfig t)) :=
  keepsCommit_moveTracker l ((s.trackers.get l).windowClose_keeps s.lineConfig t)

theorem keepsCommit_timeout (l : Line) (t : Nat) :
    KeepsCommit s { s with trackers := s.trackers.set l ((s.trackers.get l).timeout t) } :=
  keepsCommit_setTracker (fun h => by rwa [(s.trackers.get l).timeout_keeps t h]) _

theorem keepsCommit_configureTracker {before after : PerLine Bool} {l : Line}
    (h : before.get l = false → (s.trackers.get l).lock = .off) :
    KeepsCommit s (s.configureTracker before after l) :=
  keepsCommit_moveTracker l (Tracker.configure_keeps _ _ (after.get l) h).2

/-- CONFIGURE_LINES moves the three trackers; only a line that is disabled is lost (R30). -/
theorem keepsCommit_configured (h : s.TrackersOk) (c : LineConfig) : KeepsCommit s (s.configured c) := by
  have hoff (l : Line) (hl : s.lineConfig.enable.get l = false) : (s.trackers.get l).lock = .off :=
    ((trackersOk_iff.1 h).2 l).off.2 hl
  have hset : KeepsCommit s { s with lineConfig := c } := .frame rfl rfl rfl
  have ha := hset.trans (keepsCommit_configureTracker (after := c.enable) (l := .a) (hoff .a))
  have hb := ha.trans (keepsCommit_configureTracker (after := c.enable) (l := .b) fun hl => by
    simpa [configureTracker] using hoff .b hl)
  exact hb.trans (keepsCommit_configureTracker (after := c.enable) (l := .c) fun hl => by
    simpa [configureTracker] using hoff .c hl)

/-! ## Holds, skips, faults and all off -/

theorem keepsCommit_stopHolds (q : SlotIx → Bool) : KeepsCommit s (s.stopHolds q) := by
  refine .of_records rfl rfl fun n => ?_
  rw [load_stopHolds]
  split
  · split
    · exact Record.sameCopy_of_eq rfl rfl rfl
    · exact .refl _
  · exact .refl _

theorem keepsCommit_stopHoldOf (i : SlotIx) : KeepsCommit s (s.stopHoldOf i) := by
  unfold stopHoldOf
  split
  · exact keepsCommit_stopHolds _
  · exact .refl s

theorem keepsCommit_skipLoads (p : LoadIx → Bool) : KeepsCommit s (s.skipLoads p) := by
  refine .of_records rfl rfl fun n => ?_
  rw [load_skipLoads]
  split
  · exact Record.sameCopy_of_eq rfl rfl rfl
  · exact .refl _

theorem keepsCommit_continueTrain (x : SlotPulse) : KeepsCommit s (s.continueTrain x) := by
  unfold continueTrain handOver
  dsimp only
  split
  · split
    · exact .frame rfl rfl rfl
    · exact keepsCommit_skipLoads _
  · split
    · exact .frame rfl rfl rfl
    · exact .refl s

/-- A faulted member goes on waiting (R112). -/
theorem keepsCommit_faultLoads (p : LoadIx → Bool) (cause : FaultCause) :
    KeepsCommit s (s.faultLoads p cause) := by
  refine .of_records (u := s.faultLoads p cause) rfl rfl fun n => ?_
  rw [load_faultLoads]
  split
  · exact Record.sameCopy_fault _ _
  · exact .refl _

theorem keepsCommit_judgeCheck (n : LoadIx) (conducting : Bool) :
    KeepsCommit s (s.judgeCheck n conducting) := by
  unfold judgeCheck
  dsimp only
  split
  · split
    · exact keepsCommit_modifyLoad (Record.sameCopy_of_eq rfl rfl rfl)
    · split
      · exact keepsCommit_modifyLoad (Record.sameCopy_of_eq rfl rfl rfl)
      · exact keepsCommit_faultLoads _ _
  · exact .refl s

theorem keepsCommit_sampleQuiet (l : Line) (set : LoadSet) : KeepsCommit s (s.sampleQuiet l set) := by
  unfold sampleQuiet
  dsimp only
  refine (keepsCommit_mapLoads fun n => ?_).trans (keepsCommit_faultLoads _ _)
  split
  · exact Record.sameCopy_of_eq (Record.judgeQuiet_config _) (Record.judgeQuiet_staged _)
      (Record.judgeQuiet_state _)
  · exact .refl _

/-- A member taken off goes on waiting (R112). -/
theorem keepsCommit_takeAllOff : KeepsCommit s s.takeAllOff := by
  have hoff : KeepsCommit s { s with
      loads := s.loads.mapIx fun _ r => if r.isActive then r.leaveActive .defined else r
      firing := .reset s.firing.inhibit
      monitor := { s.monitor with checks := [] } } := by
    refine (keepsCommit_mapLoads (f := fun _ r => if r.isActive then r.leaveActive .defined else r)
      fun n => ?_).trans (.frame rfl rfl rfl)
    split
    · exact Record.sameCopy_of_inUse rfl rfl (by simp [Record.leaveActive])
    · exact .refl _
  exact hoff.trans (keepsCommit_stopHolds _)

/-! ## Requests of stations -/

theorem keepsCommit_recallScene (n : SceneIx) (es : List SceneEntry) (fade : Nat) (caller : Caller) :
    KeepsCommit s (s.recallScene n es fade caller) := by
  refine keepsCommit_mapLoads fun i => ?_
  split
  · exact .refl _
  · split
    · exact Record.sameCopy_claim ..
    · exact .refl _

theorem keepsCommit_stationRecall (i : SlotIx) (n : SceneIx) : KeepsCommit s (s.stationRecall i n) := by
  unfold stationRecall
  split
  · exact .refl s
  · exact keepsCommit_recallScene ..

theorem keepsCommit_zoneOff (i : SlotIx) (z : Zone) : KeepsCommit s (s.zoneOff i z) := by
  refine keepsCommit_mapLoads fun n => ?_
  split
  · exact Record.sameCopy_claim ..
  · exact .refl _

theorem keepsCommit_startHold (i : SlotIx) (z : Zone) (d : Direction) :
    KeepsCommit s (s.startHold i z d) := by
  unfold startHold
  dsimp only
  split
  · exact .frame rfl rfl rfl
  · refine KeepsCommit.trans (u := (s.stopHoldOf i).modifySlot i _)
      ((keepsCommit_stopHoldOf i).trans (.frame rfl rfl rfl)) (keepsCommit_mapLoads fun n => ?_)
    split
    · exact Record.sameCopy_of_eq (Record.claimHold_config ..) (Record.claimHold_staged ..)
        (Record.claimHold_state ..)
    · exact .refl _

theorem keepsCommit_endHold (i : SlotIx) (z : Zone) : KeepsCommit s (s.endHold i z) := by
  unfold endHold
  split
  · exact keepsCommit_stopHoldOf i
  · exact .refl s

theorem keepsCommit_failPoll (i : SlotIx) : KeepsCommit s (s.failPoll i) := by
  unfold failPoll
  dsimp only
  split
  · exact .refl s
  · exact .refl s
  · split
    · exact .frame rfl rfl rfl
    · exact (keepsCommit_stopHoldOf i).trans (.frame rfl rfl rfl)

theorem keepsCommit_answer (i : SlotIx) : KeepsCommit s (s.answer i) := by
  unfold answer
  split <;> exact .frame rfl rfl rfl

theorem keepsCommit_chooseNext : KeepsCommit s s.chooseNext := .frame rfl rfl rfl

theorem keepsCommit_judge (i : SlotIx) (seq : Bool) (refusal : Option Reason) {carryOut : State → State}
    (h : ∀ v : State, KeepsCommit v (carryOut v)) : KeepsCommit s (s.judge i seq refusal carryOut) := by
  unfold judge
  split
  · exact .refl s
  · split
    · exact .frame rfl rfl rfl
    · exact KeepsCommit.trans (u := s.modifySlot i _) (.frame rfl rfl rfl) (h _)

/-- What the request that a Reply row takes does to the commit set: it keeps it. -/
def HandlesCommit (handle : Request → Option (SlotIx → State → State)) : Prop :=
  ∀ r f, handle r = some f → ∀ i v, KeepsCommit v (f i v)

theorem keepsCommit_takeReply (frame : List Byte) {handle : Request → Option (SlotIx → State → State)}
    (h : HandlesCommit handle) : KeepsCommit s (s.takeReply frame handle) := by
  unfold takeReply
  split
  · exact .refl s
  · split
    · exact .refl s
    · rename_i q _ _ f hf
      obtain ⟨r, -, hr⟩ := Option.bind_eq_some_iff.1 hf
      have hend : KeepsCommit s { s with link := s.link.endPoll s.now } := .frame rfl rfl rfl
      refine KeepsCommit.trans ?_ keepsCommit_chooseNext
      split
      · exact hend
      · exact (hend.trans (keepsCommit_answer q.slot)).trans (h r f hr q.slot _)

theorem handlesCommit_idle : HandlesCommit Request.takeIdle
  | .idle, _, rfl, _, _ => .frame rfl rfl rfl

theorem handlesCommit_recall : HandlesCommit Request.takeRecall
  | .recall n seq, _, rfl, i, _ => keepsCommit_judge i seq _ fun _ => keepsCommit_stationRecall i n

theorem handlesCommit_raise : HandlesCommit Request.takeRaise
  | .raiseStart z seq, _, rfl, i, _ => keepsCommit_judge i seq _ fun _ => keepsCommit_startHold i z .raise

theorem handlesCommit_lower : HandlesCommit Request.takeLower
  | .lowerStart z seq, _, rfl, i, _ => keepsCommit_judge i seq _ fun _ => keepsCommit_startHold i z .lower

theorem handlesCommit_holdStop : HandlesCommit Request.takeHoldStop
  | .holdStop z seq, _, rfl, i, _ => keepsCommit_judge i seq _ fun _ => keepsCommit_endHold i z

theorem handlesCommit_off : HandlesCommit Request.takeOff
  | .off z seq, _, rfl, i, _ => keepsCommit_judge i seq _ fun _ => keepsCommit_zoneOff i z

/-! ## The bodies of the commands -/

/-- What a command body carries out keeps the commit set; a refusal always does (R167). -/
def BodyKeepsCommit (s : State) (r : CommandResult) : Prop :=
  ∀ v payload, r = .ok (v, payload) → KeepsCommit s v

theorem BodyKeepsCommit.bind {α : Type} {x : Except Status α} {f : α → CommandResult}
    (h : ∀ a, x = .ok a → s.BodyKeepsCommit (f a)) : s.BodyKeepsCommit (x >>= f) :=
  fun v payload hr => by
    obtain ⟨a, hx, ha⟩ := bind_eq_ok.1 hr
    exact h a hx v payload ha

theorem BodyKeepsCommit.ok {r : State × List Byte} (h : KeepsCommit s r.1) :
    s.BodyKeepsCommit (.ok r) := by
  rintro w q ⟨⟩
  exact h

/-- A body whose result differs from `s` in other blocks alone. -/
theorem BodyKeepsCommit.frame {r : State × List Byte} (hc : r.1.commit = s.commit)
    (hl : r.1.loads = s.loads) (ht : r.1.trackers = s.trackers) : s.BodyKeepsCommit (.ok r) :=
  .ok (.frame hc hl ht)

theorem BodyKeepsCommit.error (status : Status) : s.BodyKeepsCommit (.error status) :=
  fun _ _ h => nomatch h

/-- A VACANT record is no member's (R109). -/
theorem keepsCommit_defineLoad (p : List Byte) : s.BodyKeepsCommit (defineLoad p s) :=
  .bind fun _ _ => .bind fun _ _ => .bind fun _ hs => .ok <| keepsCommit_modifyOther _ fun _ _ hok hm =>
    hok.2.1 (hm ▸ state_of_inState hs)

theorem not_isMember_of_require {n : LoadIx} {failure : Status} {x : Unit}
    (h : require (!s.isMember n) failure = .ok x) : s.isMember n = false := by simpa using h

/-- A member is not released (R17). -/
theorem keepsCommit_releaseLoad (p : List Byte) : s.BodyKeepsCommit (releaseLoad p s) :=
  .bind fun n _ => .bind fun _ _ => .bind fun _ hm => .ok <|
    KeepsCommit.trans (keepsCommit_modifyOther (n := n) (fun _ => .vacant) fun _ h _ =>
      ne_of_isMember (not_isMember_of_require hm) h) (.frame rfl rfl rfl)

/-- The copy of a member is not replaced (R107). -/
theorem keepsCommit_stageLoad (p : List Byte) : s.BodyKeepsCommit (stageLoad p s) :=
  .bind fun _ _ => .bind fun _ _ => .bind fun _ _ => .bind fun _ hm => .ok <|
    keepsCommit_modifyOther _ fun _ h _ => ne_of_isMember (not_isMember_of_require hm) h

theorem keepsCommit_discardStaged (p : List Byte) : s.BodyKeepsCommit (discardStaged p s) :=
  .bind fun _ _ => .bind fun _ _ => .bind fun _ hm => .ok <|
    keepsCommit_modifyOther _ fun _ h _ => ne_of_isMember (not_isMember_of_require hm) h

/-- A disabled member is applied, out of turn (R112). -/
theorem keepsCommit_disableLoad (p : List Byte) : s.BodyKeepsCommit (disableLoad p s) := by
  refine .bind fun n _ => .bind fun _ _ => .ok ?_
  have hoff : KeepsCommit s (s.disabled n) := by
    refine (keepsCommit_modifyLoad (f := fun r => { r.leaveActive .defined with missCount := 0 })
      (Record.sameCopy_of_inUse rfl rfl ?_)).trans (.frame rfl rfl rfl)
    simp [Record.leaveActive]
  dsimp only
  split
  · exact hoff.trans (keepsCommit_applyMembers _)
  · exact hoff

theorem keepsCommit_switchLink (before after : Bool) : KeepsCommit s (s.switchLink before after) := by
  unfold switchLink
  dsimp only
  split
  · exact (keepsCommit_stopHolds _).trans (.frame rfl rfl rfl)
  · split <;> exact .frame rfl rfl rfl

theorem keepsCommit_configureLink (p : List Byte) : s.BodyKeepsCommit (configureLink p s) := by
  refine .bind fun c _ => .ok ?_
  have hset : KeepsCommit s { s with link := { s.link with
      enable := c.enable, holdStep := c.holdStep, holdExpiry := c.holdExpiry, offFade := c.offFade } } :=
    .frame rfl rfl rfl
  exact hset.trans (keepsCommit_switchLink _ _)

theorem keepsCommit_enrollStation (p : List Byte) : s.BodyKeepsCommit (enrollStation p s) := by
  refine .bind fun _ _ => .bind fun _ _ => ?_
  split
  · exact .error .noSpace
  · exact .frame rfl rfl rfl

theorem keepsCommit_removeStation (p : List Byte) : s.BodyKeepsCommit (removeStation p s) :=
  .bind fun i _ => .bind fun _ _ => .ok <|
    KeepsCommit.trans (keepsCommit_stopHoldOf i) (.frame rfl rfl rfl)

/-- A read of the noise count leaves the lock states alone. -/
theorem keepsCommit_readLine (p : List Byte) : s.BodyKeepsCommit (readLine p s) :=
  .bind fun l _ => .ok (keepsCommit_setTracker (x := { s.trackers.get l with noiseCount := 0 }) id _)

theorem keepsCommit_configureLines (h : s.TrackersOk) (p : List Byte) :
    s.BodyKeepsCommit (configureLines p s) := fun v payload hv => by
  obtain ⟨c, -, rfl⟩ := configured_of_ok hv
  exact keepsCommit_configured h c

/-! ### COMMIT (R110) -/

/-- The place of load `n` in a commit accepted now: a staged load waits for its line. -/
def stagedMember (s : State) (n : LoadIx) : Option Member :=
  if (s.load n).staged.isSome then (s.load n).config.map fun c => ⟨n, c.line⟩ else none

theorem stagedMembers_eq (s : State) : s.stagedMembers = (List.finRange 24).filterMap s.stagedMember := by
  unfold stagedMembers
  congr 1
  funext n
  unfold stagedMember
  cases (s.load n).staged <;> cases (s.load n).config <;> rfl

theorem stagedMember_eq_some {n : LoadIx} {m : Member} : s.stagedMember n = some m ↔
    m.load = n ∧ (s.load n).staged.isSome = true ∧ (s.load n).onLine m.line = true := by
  obtain ⟨k, l⟩ := m
  simp only [stagedMember, Record.onLine, Option.ite_none_right_eq_some, Option.map_eq_some_iff,
    Member.mk.injEq, decide_eq_true_eq]
  constructor
  · rintro ⟨hd, c, hc, rfl, rfl⟩
    exact ⟨rfl, hd, c, hc, rfl⟩
  · rintro ⟨rfl, hd, c, hc, rfl⟩
    exact ⟨hd, c, hc, rfl, rfl⟩

theorem mem_stagedMembers {m : Member} : m ∈ s.stagedMembers ↔
    (s.load m.load).staged.isSome = true ∧ (s.load m.load).onLine m.line = true := by
  simp [stagedMembers_eq, stagedMember_eq_some]

/-- The members of a new commit are in ascending load index (R109). -/
theorem stagedMembers_ascending (s : State) : (s.stagedMembers.map (·.load)).Pairwise (· < ·) := by
  rw [List.pairwise_map, stagedMembers_eq, List.pairwise_filterMap]
  refine (List.pairwise_lt_finRange 24).imp fun {i j} hij a ha b hb => ?_
  rwa [(stagedMember_eq_some.1 ha).1, (stagedMember_eq_some.1 hb).1]

/-- What must wait is ACTIVE, and its line is tracked. -/
theorem mustWait_iff {n : LoadIx} : s.mustWait n = true ↔
    (s.load n).state = .active ∧ ∃ l, (s.load n).onLine l = true ∧ s.tracks l = true := by
  unfold mustWait Record.onLine
  cases (s.load n).config with
  | none => simp
  | some c => simp [Record.isActive_iff]

/-- The part as a commit is accepted, before its loads that need not wait are applied. -/
def committing (s : State) : State :=
  { s with commit := ⟨.pending, s.stagedMembers, s.commit.seq + 1⟩ }

/-- A member of the new set that need not wait, and is applied at once. -/
def appliesNow (s : State) (n : LoadIx) : Bool := s.committing.isMember n && !s.mustWait n

/-- The loads that COMMIT does not apply at once may wait. -/
theorem commitOkBut_committing : s.committing.CommitOkBut s.appliesNow where
  idle := nofun
  ascending := s.stagedMembers_ascending
  waiting m hm hp := by
    have hmember : s.committing.isMember m.load = true := List.any_eq_true.2 ⟨m, hm, by simp⟩
    have hwait : s.mustWait m.load = true := by simpa [appliesNow, hmember] using hp
    obtain ⟨hstaged, hline⟩ := mem_stagedMembers.1 hm
    obtain ⟨hactive, l, hl, htrack⟩ := mustWait_iff.1 hwait
    obtain rfl := Record.onLine_unique hl hline
    have hstate : (s.load m.load).state ≠ .vacant := by simp [hactive]
    exact ⟨hstaged, hstate, hline, htrack⟩

theorem keepsCommit_commit (p : List Byte) : s.BodyKeepsCommit (Machine.commit p s) :=
  .bind fun _ _ => .ok ⟨fun _ => commitOkBut_committing.applyMembers⟩

/-! ## Commands taken and frames executed -/

theorem keepsCommit_takes {t : Nat} {f : State → State} (h : s.takes t f = .next u)
    (hf : KeepsCommit (s.at t) (f (s.at t))) : KeepsCommit s u := by
  have hat : KeepsCommit s (s.at t) := .frame rfl rfl rfl
  rcases takes_cases h with rfl | rfl
  · exact hat
  · exact hat.trans hf

/-- A command that executes a frame keeps the commit set where its body does. -/
theorem keepsCommit_runs {t : Nat} {c : Instr} {code : Byte} (body : List Byte → State → CommandResult)
    (hc : Runs t c code body) (h : exec c s = .next u)
    (hb : ∀ p, (s.at t).BodyKeepsCommit (body p (s.at t))) : KeepsCommit s u := by
  refine keepsCommit_takes (hc s ▸ h) ?_
  rcases (s.at t).execute_cases code body with hv | ⟨status, hv⟩ | ⟨p, w, payload, hw, hv⟩ <;> rw [hv]
  · exact .refl _
  · exact .frame rfl rfl rfl
  · exact (hb p w payload hw).trans (.frame rfl rfl rfl)

/-- A Reply row that is taken. -/
theorem keepsCommit_reply {t : Nat} {frame : List Byte}
    {handle : Request → Option (SlotIx → State → State)} (hh : HandlesCommit handle)
    (h : s.takes t (fun v => v.takeReply frame handle) = .next u) : KeepsCommit s u :=
  keepsCommit_takes h (keepsCommit_takeReply frame hh)

/-! ## Events, one by one -/

theorem keepsCommit_execPowerOnReset (h : execPowerOnReset s = .next u) : KeepsCommit s u := by
  obtain rfl := Host.Outcome.next.inj h
  split <;> exact .reset rfl

theorem keepsCommit_execPinResetEnd {t : Nat} (h : execPinResetEnd t s = .next u) : KeepsCommit s u := by
  obtain rfl := Host.Outcome.next.inj h
  split <;> exact .frame rfl rfl rfl

theorem keepsCommit_execAlloffAssertion {t : Nat} (h : execAlloffAssertion t s = .next u) :
    KeepsCommit s u := by
  have hat : KeepsCommit s { s.at t with allOff := true } := .frame rfl rfl rfl
  simp only [execAlloffAssertion] at h
  split at h <;> obtain rfl := Host.Outcome.next.inj h
  · exact hat
  · exact (hat.trans keepsCommit_takeAllOff).trans (.frame rfl rfl rfl)

theorem keepsCommit_execAlloffRelease {t : Nat} (h : execAlloffRelease t s = .next u) :
    KeepsCommit s u := by
  simp only [execAlloffRelease] at h
  split at h <;> obtain rfl := Host.Outcome.next.inj h <;> exact .frame rfl rfl rfl

/-- The crossing of a tracked line keeps it tracked (R35, R36, R38). -/
theorem keepsCommit_execZeroCrossEdge {t : Nat} {l : Line} {level : Bool}
    (h : execZeroCrossEdge t l level s = .next u) : KeepsCommit s u := by
  have hzc : KeepsCommit s { s with zc := s.zc.set l level } := .frame rfl rfl rfl
  unfold execZeroCrossEdge at h
  exact hzc.trans (keepsCommit_takes h (keepsCommit_edge l _ level))

theorem keepsCommit_execPulseEnd {t : Nat} {n : LoadIx} (h : execPulseEnd t n s = .next u) :
    KeepsCommit s u := by
  refine keepsCommit_takes h ?_
  split
  · exact .refl _
  · refine KeepsCommit.trans ?_ (keepsCommit_continueTrain _)
    exact .frame rfl rfl rfl

theorem keepsCommit_execLatestStartPassed {t : Nat} {n : LoadIx}
    (h : execLatestStartPassed t n s = .next u) : KeepsCommit s u := by
  refine keepsCommit_takes h ?_
  split
  · exact .refl _
  · refine KeepsCommit.trans ?_ (keepsCommit_skipLoads _)
    exact .frame rfl rfl rfl

theorem keepsCommit_execHeldDriveStart {t : Nat} {n : LoadIx} (h : execHeldDriveStart t n s = .next u) :
    KeepsCommit s u := by
  refine keepsCommit_takes h ?_
  split <;> exact .frame rfl rfl rfl

theorem keepsCommit_execHeldDriveEnd {t : Nat} {n : LoadIx} {level : Bool}
    (h : execHeldDriveEnd t n level s = .next u) : KeepsCommit s u := by
  refine keepsCommit_takes h ?_
  split
  · exact .refl _
  · have hsense : KeepsCommit (s.at t) ((s.at t).sampleSense n level) := .frame rfl rfl rfl
    exact (hsense.trans (keepsCommit_judgeCheck n level)).trans (.frame rfl rfl rfl)

theorem keepsCommit_execPostFiringCheck {t : Nat} {n : LoadIx} {level : Bool}
    (h : execPostFiringCheck t n level s = .next u) : KeepsCommit s u := by
  refine keepsCommit_takes h ?_
  split
  · exact .refl _
  · refine KeepsCommit.trans ?_ (keepsCommit_judgeCheck n level)
    exact .frame rfl rfl rfl

theorem keepsCommit_execQuietSample {t : Nat} {l : Line} {levels : LoadSet}
    (h : execQuietSample t l levels s = .next u) : KeepsCommit s u := by
  refine keepsCommit_takes h ?_
  split
  · exact .refl _
  · split
    · refine KeepsCommit.trans ?_ (keepsCommit_sampleQuiet l _)
      exact .frame rfl rfl rfl
    · exact .refl _

theorem keepsCommit_execHoldExpiry {t : Nat} {i : SlotIx} (h : execHoldExpiry t i s = .next u) :
    KeepsCommit s u := by
  refine keepsCommit_takes h ?_
  split
  · exact .refl _
  · split
    · exact (keepsCommit_stopHoldOf i).trans (.frame rfl rfl rfl)
    · exact .refl _

theorem keepsCommit_execPoll {t : Nat} (h : execPoll t s = .next u) : KeepsCommit s u := by
  refine keepsCommit_takes h ?_
  dsimp only
  repeat' split
  all_goals exact .frame rfl rfl rfl

theorem keepsCommit_execReplyWindowClose {t : Nat} (h : execReplyWindowClose t s = .next u) :
    KeepsCommit s u := by
  refine keepsCommit_takes h ?_
  split
  · exact .refl _
  · split
    · refine KeepsCommit.trans ?_ keepsCommit_chooseNext
      have hend : KeepsCommit (s.at t) { s.at t with link := (s.at t).link.endPoll (s.at t).now } :=
        .frame rfl rfl rfl
      split
      · exact hend
      · exact hend.trans (keepsCommit_failPoll _)
    · exact .refl _

theorem keepsCommit_execReplyNotValid {t : Nat} {frame : List Byte}
    (h : execReplyNotValid t frame s = .next u) : KeepsCommit s u := by
  refine keepsCommit_takes h ?_
  repeat' split
  all_goals exact .frame rfl rfl rfl

/-- Transactions reach the Command Unit alone. -/
theorem keepsCommit_transaction {t : Nat} (taken : State → Bool) (f : State → CommandUnit)
    (h : (s.takes t fun s => if taken s then { s with port := f s } else s) = .next u) :
    KeepsCommit s u := by
  refine keepsCommit_takes h ?_
  split <;> exact .frame rfl rfl rfl

theorem keepsCommit_execUnknownCommand {t : Nat} (h : execUnknownCommand t s = .next u) :
    KeepsCommit s u := by
  refine keepsCommit_takes h ?_
  repeat' split
  all_goals exact .frame rfl rfl rfl

theorem keepsCommit_execFrameNotIntact {t : Nat} (h : execFrameNotIntact t s = .next u) :
    KeepsCommit s u := by
  refine keepsCommit_takes h ?_
  repeat' split
  all_goals exact .frame rfl rfl rfl

/-! ## The step -/

/-- Every command keeps the commit set; a change of the line enables needs sound trackers. -/
theorem keepsCommit_exec (ht : s.TrackersOk) {c : Instr} (h : exec c s = .next u) : KeepsCommit s u := by
  cases c with
  | powerOnReset => exact keepsCommit_execPowerOnReset h
  | pinReset t => exact keepsCommit_takes (show execPinReset t s = _ from h) (.reset rfl)
  | pinResetEnd t => exact keepsCommit_execPinResetEnd h
  | alloffAssertion t => exact keepsCommit_execAlloffAssertion h
  | alloffRelease t => exact keepsCommit_execAlloffRelease h
  | zeroCrossEdge t line level => exact keepsCommit_execZeroCrossEdge h
  | acquisitionTimeout t line =>
    exact keepsCommit_takes (show execAcquisitionTimeout t line s = _ from h) (keepsCommit_timeout line _)
  | acceptanceWindowClose t line =>
    exact keepsCommit_takes (show execAcceptanceWindowClose t line s = _ from h)
      (keepsCommit_windowClose line _)
  | pulseDue t => exact keepsCommit_takes (show execPulseDue t s = _ from h) (.frame rfl rfl rfl)
  | pulseEnd t load => exact keepsCommit_execPulseEnd h
  | latestStartPassed t load => exact keepsCommit_execLatestStartPassed h
  | heldDriveStart t load => exact keepsCommit_execHeldDriveStart h
  | heldDriveEnd t load level => exact keepsCommit_execHeldDriveEnd h
  | postFiringCheck t load level => exact keepsCommit_execPostFiringCheck h
  | quietSample t line levels => exact keepsCommit_execQuietSample h
  | holdExpiry t slot => exact keepsCommit_execHoldExpiry h
  | poll t => exact keepsCommit_execPoll h
  | replyWindowClose t => exact keepsCommit_execReplyWindowClose h
  | idle t frame => exact keepsCommit_reply handlesCommit_idle h
  | raiseStart t frame => exact keepsCommit_reply handlesCommit_raise h
  | lowerStart t frame => exact keepsCommit_reply handlesCommit_lower h
  | holdStop t frame => exact keepsCommit_reply handlesCommit_holdStop h
  | off t frame => exact keepsCommit_reply handlesCommit_off h
  | replyNotValid t frame => exact keepsCommit_execReplyNotValid h
  | commandWrite t csFell frame =>
    exact keepsCommit_transaction (t := t) (·.portTakes csFell)
      (fun v =>
        let w : CommandUnit := { v.port with sdo := sdoHigh frame.length }
        if frame = [] then w else w.takeFrame frame) h
  | responseRead t csFell clocked =>
    exact keepsCommit_transaction (t := t) (·.portTakes csFell) (·.port.read clocked) h
  | transactionIgnored t csFell bytes =>
    exact keepsCommit_transaction (t := t) (·.portTakes csFell)
      (fun v => { v.port with sdo := sdoHigh (bytes.length - 1) }) h
  | unknownCommand t => exact keepsCommit_execUnknownCommand h
  | frameNotIntact t => exact keepsCommit_execFrameNotIntact h
  | configureLines t =>
    exact keepsCommit_runs (t := t) configureLines (fun _ => rfl) h fun p =>
      keepsCommit_configureLines (s := s.at t) ht p
  | readLine t => exact keepsCommit_runs readLine (fun _ => rfl) h keepsCommit_readLine
  | defineLoad t => exact keepsCommit_runs defineLoad (fun _ => rfl) h keepsCommit_defineLoad
  | disableLoad t => exact keepsCommit_runs disableLoad (fun _ => rfl) h keepsCommit_disableLoad
  | releaseLoad t => exact keepsCommit_runs releaseLoad (fun _ => rfl) h keepsCommit_releaseLoad
  | stageLoad t => exact keepsCommit_runs stageLoad (fun _ => rfl) h keepsCommit_stageLoad
  | discardStaged t => exact keepsCommit_runs discardStaged (fun _ => rfl) h keepsCommit_discardStaged
  | commit t => exact keepsCommit_runs Machine.commit (fun _ => rfl) h keepsCommit_commit
  | restart t => exact keepsCommit_runs restart (fun _ => rfl) h fun _ => .ok (.reset rfl)
  | enableLoad t =>
    exact keepsCommit_runs enableLoad (fun _ => rfl) h fun _ =>
      .bind fun _ _ => .bind fun _ _ => .bind fun _ _ => .ok <|
        keepsCommit_modifyLoad (Record.sameCopy_of_inUse rfl rfl (by simp))
  | setLevel t =>
    exact keepsCommit_runs setLevel (fun _ => rfl) h fun _ =>
      .bind fun _ _ => .bind fun _ _ => .bind fun _ _ => .bind fun _ _ => .ok <|
        keepsCommit_modifyLoad (Record.sameCopy_claim ..)
  | setLock t =>
    exact keepsCommit_runs setLock (fun _ => rfl) h fun _ =>
      .bind fun _ _ => .bind fun _ _ => .bind fun _ _ => .ok <|
        keepsCommit_modifyLoad (Record.sameCopy_of_eq rfl rfl rfl)
  | clearFault t =>
    exact keepsCommit_runs clearFault (fun _ => rfl) h fun _ =>
      .bind fun _ _ => .bind fun _ _ => .ok <|
        keepsCommit_modifyLoad (Record.sameCopy_of_inUse rfl rfl (by simp [Record.leaveActive]))
  | readLoad t =>
    exact keepsCommit_runs readLoad (fun _ => rfl) h fun _ =>
      .bind fun _ _ => .ok <| keepsCommit_modifyLoad (Record.sameCopy_of_eq rfl rfl rfl)
  | readCommit t => exact keepsCommit_runs readCommit (fun _ => rfl) h fun _ => .frame rfl rfl rfl
  | writeScene t =>
    exact keepsCommit_runs writeScene (fun _ => rfl) h fun _ =>
      .bind fun _ _ => .bind fun _ _ => .bind fun _ _ => .frame rfl rfl rfl
  | deleteScene t =>
    exact keepsCommit_runs deleteScene (fun _ => rfl) h fun _ =>
      .bind fun _ _ => .bind fun _ _ => .frame rfl rfl rfl
  | readScene t =>
    exact keepsCommit_runs readScene (fun _ => rfl) h fun _ => .bind fun _ _ => .frame rfl rfl rfl
  | recallScene t =>
    exact keepsCommit_runs Machine.recallScene (fun _ => rfl) h fun _ =>
      .bind fun _ _ => .bind fun _ _ => .bind fun _ _ => .bind fun _ _ =>
        .ok (keepsCommit_recallScene ..)
  | readPool t => exact keepsCommit_runs readPool (fun _ => rfl) h fun _ => .frame rfl rfl rfl
  | configureLink t => exact keepsCommit_runs configureLink (fun _ => rfl) h keepsCommit_configureLink
  | enrollStation t => exact keepsCommit_runs enrollStation (fun _ => rfl) h keepsCommit_enrollStation
  | removeStation t => exact keepsCommit_runs removeStation (fun _ => rfl) h keepsCommit_removeStation
  | readStation t =>
    exact keepsCommit_runs readStation (fun _ => rfl) h fun _ => .bind fun _ _ => .frame rfl rfl rfl
  | readSummary t => exact keepsCommit_runs readSummary (fun _ => rfl) h fun _ => .frame rfl rfl rfl
  | readEvents t =>
    exact keepsCommit_runs readEvents (fun _ => rfl) h fun _ => .bind fun _ _ => .frame rfl rfl rfl
  | setEventMask t =>
    exact keepsCommit_runs setEventMask (fun _ => rfl) h fun _ => .bind fun _ _ => .frame rfl rfl rfl
  | allOff t =>
    exact keepsCommit_runs Machine.allOff (fun _ => rfl) h fun _ => .ok <|
      KeepsCommit.trans keepsCommit_takeAllOff (.frame rfl rfl rfl)
  | identify t => exact keepsCommit_runs identify (fun _ => rfl) h fun _ => .frame rfl rfl rfl
  | _ =>
    -- The RECALL row: its constructor is named by a word that Mathlib reserves.
    exact keepsCommit_reply handlesCommit_recall h

theorem keepsCommit_step (ht : s.TrackersOk) (h : step s = .next u) : KeepsCommit s u := by
  unfold step at h
  split at h
  · obtain rfl := Host.Outcome.next.inj h
    exact .refl s
  · rename_i c rest _
    have hrest : KeepsCommit s { s with pending := rest } := .frame rfl rfl rfl
    exact hrest.trans (keepsCommit_exec ht h)

end State

/-- Settles O9: sound trackers suffice, for a load that COMMIT leaves waiting is ACTIVE and has a line
without the rules about records. -/
theorem stepKeepsCommitSet : Obligations.StepKeepsCommitSet :=
  fun _ _ hs _ ht h => (State.keepsCommit_step ht h).commitOk hs

end Sys2Proof.Machine
end

section
/-!
SUPPORT. Staging and commit: what an apply makes of a record and of the quiet samples, the staging commands,
and COMMIT.
-/

namespace Sys2Proof.Machine

/-! ## An apply (R113, R116) -/

namespace Record

variable {r : Record} {old new : LoadConfig}

/-- The copy put in force, in the terms of R113. -/
theorem applyStaged_eq (hc : r.config = some old) (hd : r.staged = some new) :
    r.applyStaged = { r with
      config := some new
      staged := none
      missCount := 0
      stuckCount := 0
      burstAccumulator := if old.mode = new.mode ∧ old.line = new.line then r.burstAccumulator else 0
      burstCycleOn := if old.mode = new.mode ∧ old.line = new.line then r.burstCycleOn else false } := by
  simp only [applyStaged, hd, onLine, hc, Option.map_some, Option.some.injEq, Bool.and_eq_true,
    decide_eq_true_eq]
  by_cases h : old.mode = new.mode ∧ old.line = new.line
  · simp [h]
  · simp only [if_neg h, mk.injEq, and_true, true_and]
    simpa using fun hm hl => absurd ⟨hm, hl⟩ h

theorem changesLine_iff (hc : r.config = some old) (hd : r.staged = some new) :
    r.changesLine = true ↔ old.line ≠ new.line := by
  simp [changesLine, hd, onLine, hc]

/-- Only a record in use holds a copy (R106). -/
theorem Ok.inUse_of_staged (h : r.Ok) (hd : r.staged.isSome = true) : r.state ≠ .vacant := by
  obtain ⟨d, hd⟩ := Option.isSome_iff_exists.1 hd
  obtain ⟨-, hstaged, -⟩ := h
  simp only [stagedOk, hd] at hstaged
  exact hstaged.2

end Record

namespace State

variable {s : State} {p : LoadIx → Bool}

/-- The loads that an apply of `p` takes out of the untaken quiet samples: those whose line changes, and
those left unsensed (R104, log 29). -/
def leavesSamples (s : State) (p : LoadIx → Bool) (n : LoadIx) : Bool :=
  p n && ((s.load n).changesLine || !(s.load n).applyStaged.sensed)

theorem quiet_applyMembers (s : State) (p : LoadIx → Bool) (l : Line) :
    (s.applyMembers p).monitor.quiet.get l = (s.monitor.quiet.get l).map fun q =>
      { q with loads := q.loads &&& ~~~ loadsWhere (s.leavesSamples p) } := by
  have hleave : (fun n => (p n && (s.load n).changesLine) ||
      p n && !((s.mapLoads fun n r => if p n then r.applyStaged else r).load n).sensed) =
      s.leavesSamples p := by
    funext n
    rw [load_mapLoads]
    cases hp : p n <;> simp [leavesSamples, hp]
  simp [applyMembers, Monitor.removeChecks, ← hleave]

/-- An emptied set completes the commit (R116). -/
theorem applyMembers_of_empty (h : s.commit.state = .pending)
    (hempty : (s.applyMembers p).commit.members = []) : (s.applyMembers p).commit.state = .idle ∧
      (s.applyMembers p).attention = { s.attention with
        commit := some ⟨s.commit.seq, s.attention.commit.isSome⟩ } := by
  rw [applyMembers_members] at hempty
  rcases applyMembers_completes s p with ⟨-, -, hidle, hreport⟩ | ⟨hnot, -, -⟩
  · exact ⟨hidle, hreport⟩
  · exact absurd ⟨h, hempty⟩ hnot

/-- With members left the commit stays pending, and nothing is reported. -/
theorem applyMembers_of_rest (h : s.commit.state = .pending)
    (hrest : (s.applyMembers p).commit.members ≠ []) :
    (s.applyMembers p).commit.state = .pending ∧ (s.applyMembers p).attention = s.attention := by
  rw [applyMembers_members] at hrest
  rcases applyMembers_completes s p with ⟨-, hempty, -, -⟩ | ⟨-, hstate, hreport⟩
  · exact absurd hempty hrest
  · exact ⟨hstate.trans h, hreport⟩

end State

/-- Settles O26. -/
theorem applyPutsCopyInForce : Obligations.ApplyPutsCopyInForce := by
  intro s p hpending u
  refine ⟨fun n old new hp hc hd => ⟨?_, fun hline => ?_, fun hleave l q hq => ?_⟩, fun n hp => ?_,
    fun l q hq => ⟨q.loads &&& ~~~ loadsWhere (s.leavesSamples p), ?_, fun n hp => ?_⟩, fun m => ?_,
    State.applyMembers_seq s p, fun hempty => ?_, fun hrest => ?_⟩
  · rw [← Record.applyStaged_eq hc hd]
    exact (State.load_applyMembers s p n).trans (if_pos hp)
  · exact State.noGateActivity_applyMembers hp ((Record.changesLine_iff hc hd).2 hline)
  · rw [Option.mem_def, State.quiet_applyMembers] at hq
    obtain ⟨q', -, rfl⟩ := Option.map_eq_some_iff.1 hq
    have hout : s.leavesSamples p n = true := by
      rcases hleave with hline | hsense
      · simp [State.leavesSamples, hp, (Record.changesLine_iff hc hd).2 hline]
      · simp [State.leavesSamples, hp, Record.applyStaged_eq hc hd, Record.sensed, hsense]
    rw [hasLoad_sub, hout, Bool.not_true, Bool.and_false]
  · exact (State.load_applyMembers s p n).trans (if_neg (by simp [hp]))
  · rw [State.quiet_applyMembers, hq]
    rfl
  · simp [State.leavesSamples, hp]
  · simp [u]
  · exact State.applyMembers_of_empty hpending hempty
  · exact State.applyMembers_of_rest hpending hrest

/-! ## STAGE_LOAD and DISCARD_STAGED (R107, R108) -/

section staging

variable {p : List Byte} {s : State} {n : LoadIx}

theorem stageLoad_vacant (hn : indexAt 24 p 0 = some n) {c : LoadConfig} (hc : configAt p 1 = some c)
    (hs : (s.load n).state = .vacant) : stageLoad p s = .error .state := by
  simp [stageLoad, hn, hc, State.inState, hs]

theorem stageLoad_member (hn : indexAt 24 p 0 = some n) {c : LoadConfig} (hc : configAt p 1 = some c)
    (hs : (s.load n).state ≠ .vacant) (hm : s.isMember n = true) : stageLoad p s = .error .busy := by
  simp [stageLoad, hn, hc, State.inState, hs, hm]

theorem stageLoad_ok (hn : indexAt 24 p 0 = some n) {c : LoadConfig} (hc : configAt p 1 = some c)
    (hs : (s.load n).state ≠ .vacant) (hm : s.isMember n = false) :
    stageLoad p s = .ok (s.modifyLoad n fun r => { r with staged := some c }, []) := by
  simp [stageLoad, hn, hc, State.inState, hs, hm]

theorem discardStaged_vacant (hn : indexAt 24 p 0 = some n) (hs : (s.load n).state = .vacant) :
    discardStaged p s = .error .state := by
  simp [discardStaged, hn, State.inState, hs]

theorem discardStaged_member (hn : indexAt 24 p 0 = some n) (hs : (s.load n).state ≠ .vacant)
    (hm : s.isMember n = true) : discardStaged p s = .error .busy := by
  simp [discardStaged, hn, State.inState, hs, hm]

theorem discardStaged_ok (hn : indexAt 24 p 0 = some n) (hs : (s.load n).state ≠ .vacant)
    (hm : s.isMember n = false) :
    discardStaged p s = .ok (s.modifyLoad n fun r => { r with staged := none }, []) := by
  simp [discardStaged, hn, State.inState, hs, hm]

end staging

/-- A command on load `n` whose outcome depends on its record: VACANT gives STATE, a member BUSY, and
otherwise the record becomes `r` (Table 6-2). -/
theorem State.staging_outcomes {s : State} {t : Nat} {n : LoadIx} {r : Record} {x : Result}
    (hvacant : (s.load n).state = .vacant → ∃ u, x = .next u ∧ s.Refuses u t .state)
    (hmember : (s.load n).state ≠ .vacant → s.isMember n = true → ∃ u, x = .next u ∧ s.Refuses u t .busy)
    (hfree : (s.load n).state ≠ .vacant → s.isMember n = false →
      ∃ u, x = .next u ∧ s.SetsRecord u t n r) :
    ∃ u, x = .next u ∧ ((s.load n).state = .vacant → s.Refuses u t .state) ∧
      ((s.load n).state ≠ .vacant → s.isMember n = true → s.Refuses u t .busy) ∧
      ((s.load n).state ≠ .vacant → s.isMember n = false → s.SetsRecord u t n r) := by
  by_cases hs : (s.load n).state = .vacant
  · obtain ⟨u, hx, hu⟩ := hvacant hs
    exact ⟨u, hx, fun _ => hu, fun h => absurd hs h, fun h => absurd hs h⟩
  · cases hm : s.isMember n with
    | true =>
      obtain ⟨u, hx, hu⟩ := hmember hs hm
      exact ⟨u, hx, fun h => absurd h hs, fun _ _ => hu, fun _ h => absurd h (by simp)⟩
    | false =>
      obtain ⟨u, hx, hu⟩ := hfree hs hm
      exact ⟨u, hx, fun h => absurd h hs, fun _ h => absurd h (by simp), fun _ _ => hu⟩

/-- Settles O49. -/
theorem stagingWritesOnlyTheCopy : Obligations.StagingWritesOnlyTheCopy := by
  intro s t n c carried hc hm hle
  have hn (p : List Byte) : indexAt 24 (byte n.val :: p) 0 = some n := indexAt_byte n (by decide) p
  have hconfig := configAt_configBytes (byte n.val) hc hm hle
  refine ⟨fun h => State.staging_outcomes (fun hs => ?_) (fun hs hmem => ?_) (fun hs hmem => ?_),
    fun h => State.staging_outcomes (fun hs => ?_) (fun hs hmem => ?_) (fun hs hmem => ?_)⟩
  · exact h.exec_error (fun _ => rfl) rfl rfl (stageLoad_vacant (s := s.at t) (hn _) hconfig hs)
  · exact h.exec_error (fun _ => rfl) rfl rfl (stageLoad_member (s := s.at t) (hn _) hconfig hs hmem)
  · exact h.exec_modifyLoad (fun _ => rfl) rfl rfl (stageLoad_ok (s := s.at t) (hn _) hconfig hs hmem)
  · exact h.exec_error (fun _ => rfl) rfl rfl (discardStaged_vacant (s := s.at t) (hn _) hs)
  · exact h.exec_error (fun _ => rfl) rfl rfl (discardStaged_member (s := s.at t) (hn _) hs hmem)
  · exact h.exec_modifyLoad (fun _ => rfl) rfl rfl (discardStaged_ok (s := s.at t) (hn _) hs hmem)

/-! ## COMMIT (R110) -/

namespace State

variable {s : State} {n : LoadIx}

/-- The part after an accepted COMMIT: the loads that need not wait are applied. -/
def committed (s : State) : State := s.committing.applyMembers s.appliesNow

theorem commit_pending (p : List Byte) (h : s.commit.state = .pending) :
    Machine.commit p s = .error .busy := by
  simp [Machine.commit, h]

theorem commit_idle (p : List Byte) (h : s.commit.state = .idle) : Machine.commit p s =
    .ok (s.committed, [s.committed.commit.seq, byte s.committed.commit.members.length]) := by
  simp only [Machine.commit, h, decide_true, require_true, ok_bind]
  rfl

/-- The load of a staged copy waits for its line: it is ACTIVE and the line is tracked (R110). -/
def WaitsForLine (s : State) (n : LoadIx) : Prop :=
  (s.load n).state = .active ∧ (s.load n).staged ≠ none ∧
    ∃ l, (s.load n).onLine l = true ∧ s.tracks l = true

/-- A staged load is a member of the new set, for it has a line (R1, R106). -/
theorem isMember_committing (hs : s.RecordsOk) :
    s.committing.isMember n = true ↔ (s.load n).staged ≠ none := by
  rw [isMember, List.any_eq_true, Option.ne_none_iff_isSome]
  constructor
  · rintro ⟨m, hm, hn⟩
    rw [← eq_of_beq hn]
    exact (mem_stagedMembers.1 hm).1
  · intro hd
    obtain ⟨c, hc, -⟩ := (hs n).exists_config ((hs n).inUse_of_staged hd)
    exact ⟨⟨n, c.line⟩, mem_stagedMembers.2 ⟨hd, by simp [Record.onLine, hc]⟩, by simp⟩

/-- A staged load that does not wait is applied at once, and no other load is. -/
theorem appliesNow_iff (hs : s.RecordsOk) :
    s.appliesNow n = true ↔ (s.load n).staged ≠ none ∧ ¬ s.WaitsForLine n := by
  rw [appliesNow, Bool.and_eq_true, isMember_committing hs, Bool.not_eq_true', ← Bool.not_eq_true,
    mustWait_iff, WaitsForLine]
  constructor
  · exact fun ⟨hd, hnot⟩ => ⟨hd, fun ⟨hactive, _, hline⟩ => hnot ⟨hactive, hline⟩⟩
  · exact fun ⟨hd, hnot⟩ => ⟨hd, fun ⟨hactive, hline⟩ => hnot ⟨hactive, hd, hline⟩⟩

theorem load_committed (n : LoadIx) : s.committed.load n =
    if s.appliesNow n then (s.load n).applyStaged else s.load n :=
  load_applyMembers s.committing s.appliesNow n

theorem load_committed_of_waits (hs : s.RecordsOk) (h : s.WaitsForLine n) :
    s.committed.load n = s.load n := by
  rw [load_committed, if_neg]
  exact fun hp => ((appliesNow_iff hs).1 hp).2 h

theorem load_committed_of_not_waits (hs : s.RecordsOk) (h : ¬ s.WaitsForLine n) :
    s.committed.load n = (s.load n).applyStaged := by
  rw [load_committed]
  split
  · rfl
  · rename_i hp
    have hnone : (s.load n).staged = none :=
      not_not.1 fun hd => hp ((appliesNow_iff hs).2 ⟨hd, h⟩)
    exact (Record.applyStaged_none _ hnone).symm

theorem mem_committed (hs : s.RecordsOk) {m : Member} : m ∈ s.committed.commit.members ↔
    s.WaitsForLine m.load ∧ (s.load m.load).onLine m.line = true := by
  rw [committed, applyMembers_members, List.mem_filter, Bool.not_eq_true', ← Bool.not_eq_true,
    appliesNow_iff hs, show s.committing.commit.members = s.stagedMembers from rfl, mem_stagedMembers,
    ← Option.ne_none_iff_isSome]
  constructor
  · rintro ⟨⟨hd, hline⟩, hnot⟩
    exact ⟨not_not.1 fun hw => hnot ⟨hd, hw⟩, hline⟩
  · rintro ⟨hw, hline⟩
    exact ⟨⟨hw.2.1, hline⟩, fun hnot => hnot.2 hw⟩

end State

/-- Settles O50. -/
theorem commitAppliesOrWaits : Obligations.CommitAppliesOrWaits := by
  intro s t hs h waits
  cases hc : s.commit.state with
  | pending =>
    obtain ⟨u, hu, hrefuses⟩ := h.exec_error (c := .commit t) (fun _ => rfl) rfl rfl
      (State.commit_pending (s := s.at t) [] hc)
    exact ⟨u, hu, fun _ => hrefuses, nofun⟩
  | idle =>
    let v := (s.at t).committed
    have hok : (s.at t).RecordsOk := hs
    have hseq : v.commit.seq = s.commit.seq + 1 := State.applyMembers_seq _ _
    refine ⟨_, h.exec_ok (c := .commit t) (fun _ => rfl) rfl rfl
      (State.commit_idle (s := s.at t) [] hc), nofun, fun _ => ⟨?_, hseq, fun m => ?_, ?_,
      fun n hn => ?_, fun n hn => ?_, ?_, ?_, ?_⟩⟩
    · rw [← hseq]
      exact State.answers_respond_of_port (State.applyMembers_port _ _) .ok _
    · exact State.mem_committed hok
    · exact State.commitOkBut_committing.applyMembers.2.1
    · exact State.load_committed_of_waits hok hn
    · exact State.load_committed_of_not_waits hok hn
    · exact State.applyMembers_of_empty (s := (s.at t).committing) rfl
    · exact State.applyMembers_of_rest (s := (s.at t).committing) rfl
    · let answered := v.respond .ok [v.commit.seq, byte v.commit.members.length]
      exact congrArg (fun w : State => { w with port := answered.port })
        (State.applyMembers_frame (s.at t).committing (s.at t).appliesNow)

end Sys2Proof.Machine
end

section
/-!
SUPPORT. The reads that change nothing: READ_COMMIT, READ_SCENE, READ_POOL, READ_STATION and READ_SUMMARY.
-/

namespace Sys2Proof.Machine

/-! ## Reads that change nothing -/

theorem readScene_ok {p : List Byte} {s : State} {n : SceneIx} (hn : indexAt 32 p 0 = some n) :
    readScene p s = .ok (s, sceneImage (s.scenes.scenes.get n)) := by
  simp [readScene, hn]

theorem readStation_ok {p : List Byte} {s : State} {i : SlotIx} (hi : indexAt 8 p 0 = some i) :
    readStation p s = .ok (s, stationImage (s.slot i) s.now) := by
  simp [readStation, hi]

/-- The image of a station slot from its parts (Table 11-6). -/
theorem stationImage_of_parts (x : StationSlot) (now : Nat) {state lastSeq : Byte}
    {station result hold : List Byte} (hstate : slotStateCode x.state = state)
    (hstation : enrolmentBytes x.station = station) (hseq : lastSeqCode x.lastSeq = lastSeq)
    (hresult : [resultCode x.lastResult, reasonCode x.lastResult] = result)
    (hhold : holdBytes now x.hold = hold) : stationImage x now =
      [state] ++ station ++ [lastSeq] ++ result ++ [byte x.failCount] ++ hold := by
  subst hstate hstation hseq hresult hhold
  simp [stationImage]

/-- A command whose body only reads reports its payload, in whatever form that is written. -/
theorem State.Executing.exec_report {s : State} {t : Nat} {c : Instr} {code : Byte} {p : List Byte}
    {body : List Byte → State → CommandResult} (h : s.Executing code p) (hc : Runs t c code body)
    {r : LengthRule} (hr : lengthRule code = some r) (hp : r.holds p = true) {payload q : List Byte}
    (hb : body p (s.at t) = .ok (s.at t, payload)) (hq : payload = q) :
    ∃ u, exec c s = .next u ∧ s.Reports u t q := by
  subst hq
  exact ⟨_, h.exec_ok hc hr hp hb, s.reports_respond t payload⟩

/-! ## Flag bytes -/

/-- The number whose binary digits are `fs`, the lowest first. -/
def flagsNat (fs : List Bool) : Nat := fs.foldr (fun f n => f.toNat + 2 * n) 0

theorem flagBits_eq (fs : List Bool) : flagBits fs = byte (flagsNat fs) := rfl

theorem flagsNat_lt (fs : List Bool) : flagsNat fs < 2 ^ fs.length := by
  induction fs with
  | nil => simp [flagsNat]
  | cons f fs ih =>
    have hf := f.toNat_le
    simp only [flagsNat, List.foldr_cons, List.length_cons, pow_succ] at ih ⊢
    omega

theorem testBit_flagsNat (fs : List Bool) (i : Nat) : (flagsNat fs).testBit i = fs.getD i false := by
  induction fs generalizing i with
  | nil => simp [flagsNat]
  | cons f fs ih =>
    have hbit : flagsNat (f :: fs) = Nat.bit f (flagsNat fs) := by
      rw [Nat.bit_val, add_comm]
      rfl
    rw [hbit]
    cases i with
    | zero => simp
    | succ i => rw [Nat.testBit_bit_succ, ih, List.getD_cons_succ]

/-- A flag byte holds flag i in its bit i (R184). -/
theorem getLsbD_flagBits (fs : List Bool) {i : Nat} (hi : i < 8) :
    (flagBits fs).getLsbD i = fs.getD i false := by
  rw [flagBits_eq, byte, BitVec.getLsbD_ofNat, testBit_flagsNat]
  simp [hi]

theorem flagBits_toNat_lt {fs : List Bool} (h : fs.length ≤ 8) :
    (flagBits fs).toNat < 2 ^ fs.length := by
  rw [flagBits_eq, byte_toNat]
  · exact flagsNat_lt fs
  · exact (flagsNat_lt fs).trans_le (Nat.pow_le_pow_right (by decide) h)

/-! ## READ_SUMMARY (R176, R179) -/

/-! ### The numbers of the classes and their details -/

theorem mem_classNumbers {c : EventClass} {k : Nat} : (c, k) ∈ classNumbers ↔ k = c.bit + 1 := by
  cases c <;> simp [classNumbers, EventClass.bit]

theorem classCode_eq (c : EventClass) : classCode c = byte (c.bit + 1) := by cases c <;> rfl

theorem EventClass.bit_lt (c : EventClass) : c.bit < 6 := by cases c <;> decide

theorem EventClass.mem_all (c : EventClass) : c ∈ EventClass.all := by cases c <;> simp [EventClass.all]

theorem SafetyDetail.ne_empty {d : SafetyDetail} : d ≠ .empty ↔ d.restarted = true ∨
    d.allOffAsserted = true ∨ d.allOffReleased = true ∨ d.allOffCommand = true := by
  obtain ⟨x, y, z, w⟩ := d
  cases x <;> cases y <;> cases z <;> simp [SafetyDetail.empty]

theorem LineDetail.ne_empty {d : LineDetail} : d ≠ .empty ↔ d.lost = true ∨ d.locked = true ∨
    d.holdoverEntered = true := by
  obtain ⟨x, y, z⟩ := d
  cases x <;> cases y <;> simp [LineDetail.empty]

theorem StationDetail.ne_empty {d : StationDetail} : d ≠ .empty ↔ d.online = true ∨ d.offline = true ∨
    d.refused = true ∨ d.holdExpired = true := by
  obtain ⟨x, y, z, w⟩ := d
  cases x <;> cases y <;> cases z <;> simp [StationDetail.empty]

theorem PerLine.ne_fill {α : Type} {p : PerLine α} {x : α} : p ≠ .fill x ↔ ∃ l, p.get l ≠ x := by
  rw [← not_forall, not_iff_not]
  exact ⟨fun h l => by rw [h, PerLine.get_fill], fun h => PerLine.ext_get fun l => by
    rw [h, PerLine.get_fill]⟩

theorem Table.ne_fill {n : Nat} {α : Type} {t : Table n α} {x : α} :
    t ≠ .fill n x ↔ ∃ i, t.get i ≠ x := by
  rw [← not_forall, not_iff_not]
  exact ⟨fun h i => by rw [h, Table.get_fill], fun h => Table.ext_get fun i => by
    rw [h, Table.get_fill]⟩

theorem LoadSet.ne_zero {x : LoadSet} : x ≠ 0 ↔ ∃ n, hasLoad x n = true := by
  rw [ne_eq, BitVec.eq_of_getLsbD_eq_iff]
  simp only [hasLoad, Fin.exists_iff, not_forall, BitVec.ofNat_eq_ofNat, BitVec.getLsbD_zero,
    Bool.not_eq_false, exists_prop]

namespace Attention

variable (a : Attention)

/-- A class is pending exactly where its detail holds something (R176). -/
theorem isPending_iff (c : EventClass) : a.isPending c = true ↔ a.Pends c := by
  cases c with
  | safety => exact bne_iff_ne.trans SafetyDetail.ne_empty
  | line => exact bne_iff_ne.trans (PerLine.ne_fill.trans (exists_congr fun _ => LineDetail.ne_empty))
  | fault => exact bne_iff_ne.trans LoadSet.ne_zero
  | skip => exact bne_iff_ne.trans LoadSet.ne_zero
  | commit => exact Iff.rfl
  | station => exact bne_iff_ne.trans (Table.ne_fill.trans (exists_congr fun _ => StationDetail.ne_empty))

/-- The class set has the bit of a class exactly where it is pending (R184). -/
theorem pendingSet_bit (c : EventClass) : a.pendingSet.getLsbD c.bit = true ↔ a.Pends c := by
  have hbit : (EventClass.all.map a.isPending).getD c.bit false = a.isPending c := by cases c <;> rfl
  rw [pendingSet, getLsbD_flagBits _ (by have := c.bit_lt; omega), hbit, isPending_iff]

theorem pendingSet_lt : a.pendingSet.toNat < 64 :=
  flagBits_toNat_lt (fs := EventClass.all.map a.isPending) (by simp [EventClass.all])

/-- Pending and not masked (R178). -/
def Shows (c : EventClass) : Prop := a.Pends c ∧ a.mask.getLsbD c.bit = false

theorem shows_iff (c : EventClass) : (a.isPending c && !a.isMasked c) = true ↔ a.Shows c := by
  rw [Bool.and_eq_true, isPending_iff, Bool.not_eq_true']
  rfl

/-- The highest class is the lowest-numbered one that shows (R179). -/
theorem highest_eq_some {c : EventClass} (h : a.highest = some c) :
    a.Shows c ∧ ∀ d, d.bit < c.bit → ¬ a.Shows d := by
  have hordered : EventClass.all.Pairwise fun x y => x.bit < y.bit := by decide
  obtain ⟨-, hc, hleast⟩ := (StationLink.find_eq_some_of_pairwise EventClass.bit _ c hordered).1 h
  refine ⟨(a.shows_iff c).1 hc, fun d hd hshows => ?_⟩
  exact absurd (hleast d d.mem_all ((a.shows_iff d).2 hshows)) (by omega)

theorem highest_eq_none (h : a.highest = none) (c : EventClass) : ¬ a.Shows c :=
  fun hc => List.find?_eq_none.1 h c c.mem_all ((a.shows_iff c).2 hc)

end Attention

/-- Settles O51. -/
theorem plainReadsChangeNothing : Obligations.PlainReadsChangeNothing := by
  intro s t
  refine ⟨fun h => ?_, fun n h => ?_, fun h => ?_, fun i h => ?_, fun h => ?_⟩
  · exact h.exec_report (fun _ => rfl) rfl rfl (body := readCommit) rfl rfl
  · refine h.exec_report (fun _ => rfl) rfl rfl
      (readScene_ok (s := s.at t) (indexAt_byte n (by decide) [])) ?_
    rw [State.at_scenes]
    cases s.scenes.scenes.get n <;> rfl
  · exact h.exec_report (fun _ => rfl) rfl rfl (body := readPool) rfl rfl
  · refine h.exec_report (fun _ => rfl) rfl rfl
      (readStation_ok (s := s.at t) (indexAt_byte i (by decide) [])) ?_
    rw [State.at_slot]
    generalize s.slot i = x
    refine stationImage_of_parts x _ ?_ ?_ ?_ ?_ ?_
    · cases x.state <;> rfl
    · cases x.station <;> rfl
    · cases x.lastSeq with
      | none => rfl
      | some q => exact flagByte_eq q
    · cases x.lastResult with
      | nothing => rfl
      | accepted => rfl
      | refused why => cases why <;> rfl
    · cases x.hold with
      | none => rfl
      | some y =>
        obtain ⟨zone, direction, expiry⟩ := y
        cases direction <;> rfl
  · obtain ⟨u, hu, hreports⟩ := h.exec_report (c := .readSummary t) (fun _ => rfl) rfl rfl
      (body := readSummary) rfl rfl
    refine ⟨u, _, _, hu, hreports, fun c k hk => ?_, s.attention.pendingSet_lt, ?_⟩
    · obtain rfl := mem_classNumbers.1 hk
      exact s.attention.pendingSet_bit c
    · cases hc : s.attention.highest with
      | none =>
        refine .inr ⟨by simp [hc], fun c k hk => ?_⟩
        obtain rfl := mem_classNumbers.1 hk
        exact s.attention.highest_eq_none hc c
      | some c =>
        obtain ⟨hshows, hleast⟩ := s.attention.highest_eq_some hc
        refine .inl ⟨c, c.bit + 1, mem_classNumbers.2 rfl, by simp [hc, classCode_eq], hshows,
          fun d j hj hlt => ?_⟩
        obtain rfl := mem_classNumbers.1 hj
        exact hleast d (by omega)

end Sys2Proof.Machine
end

section
/-!
SUPPORT. The Scene Store by itself: the carried entries and their order, and what WRITE_SCENE and
DELETE_SCENE do to the scenes and to the pool.
-/

namespace Sys2Proof.Machine

/-! ## Carried entries (R125, R186) -/

@[simp] theorem indexAt_succ (k : Nat) (b : Byte) (p : List Byte) (i : Nat) :
    indexAt k (b :: p) (i + 1) = indexAt k p i := rfl

/-- The entries are read from their offset on. -/
@[simp] theorem entriesAt_succ (b : Byte) (p : List Byte) (i k : Nat) :
    entriesAt (b :: p) (i + 1) k = entriesAt p i k := by
  induction k generalizing i with
  | zero => rfl
  | succ k ih =>
    have hword : wordAt (b :: p) (i + 1 + 1) = wordAt p (i + 1) := rfl
    have hrest : entriesAt (b :: p) (i + 1 + 3) k = entriesAt p (i + 3) k := ih (i + 3)
    simp only [entriesAt, indexAt_succ, hword, hrest]

theorem entryBytes_cons (e : SceneEntry) (es : List SceneEntry) :
    entryBytes (e :: es) = byte e.load.val :: (word e.level ++ entryBytes es) := by
  simp [entryBytes]

@[simp] theorem entryBytes_length (es : List SceneEntry) : (entryBytes es).length = 3 * es.length := by
  induction es with
  | nil => rfl
  | cons e es ih =>
    simp only [entryBytes_cons, word_eq, List.length_cons, List.length_append, List.length_nil, ih]
    omega

/-- Entries with levels in range read back as they were sent. -/
theorem entriesAt_entryBytes {es : List SceneEntry} (h : ∀ e ∈ es, e.level ≤ 1000) :
    entriesAt (entryBytes es) 0 es.length = some es := by
  induction es with
  | nil => rfl
  | cons e es ih =>
    obtain ⟨hlevel, hrest⟩ := List.forall_mem_cons.1 h
    rw [entryBytes_cons, List.length_cons, entriesAt, indexAt_byte e.load (by decide), wordAt_succ,
      wordAt_word (by omega), word_eq]
    simp [hlevel, ih hrest]

/-- As many entries are read as are asked for, with levels in range (R125). -/
theorem entriesAt_inRange {p : List Byte} {i k : Nat} {es : List SceneEntry}
    (h : entriesAt p i k = some es) : es.length = k ∧ ∀ e ∈ es, e.level ≤ 1000 := by
  induction k generalizing i es with
  | zero =>
    obtain rfl : [] = es := Option.some.inj h
    simp
  | succ k ih =>
    simp only [entriesAt, Option.bind_eq_bind, Option.bind_eq_some_iff, Option.ite_none_right_eq_some,
      Option.some.injEq] at h
    obtain ⟨load, -, hlevel, rest, hrest, rfl⟩ := h
    obtain ⟨hlength, hlevels⟩ := ih hrest
    exact ⟨by simp [hlength], List.forall_mem_cons.2 ⟨hlevel, hlevels⟩⟩

/-! ## Ascending load index (R123) -/

/-- Entries are ordered by load alone. -/
def SceneEntry.key (e : SceneEntry) : Nat × Nat := (e.load.val, 0)

theorem insertEntry_eq_insertBy (e : SceneEntry) (es : List SceneEntry) :
    insertEntry e es = insertBy SceneEntry.key e es := by
  induction es with
  | nil => rfl
  | cons x xs ih => simp [insertEntry, insertBy, precedes, SceneEntry.key, ih]

theorem sortEntries_eq_insertBy (es : List SceneEntry) :
    sortEntries es = es.foldr (insertBy SceneEntry.key) [] := by
  rw [sortEntries, funext₂ insertEntry_eq_insertBy]

theorem sortEntries_perm (es : List SceneEntry) : (sortEntries es).Perm es := by
  rw [sortEntries_eq_insertBy]
  exact foldr_insertBy_perm SceneEntry.key es

/-- Entries of distinct loads are sorted into strictly ascending load index. -/
theorem sortEntries_ascending {es : List SceneEntry} (h : (es.map (·.load)).Nodup) :
    ((sortEntries es).map (·.load)).Pairwise (· < ·) := by
  have hnodup : ((sortEntries es).map (·.load)).Nodup := ((sortEntries_perm es).map _).nodup_iff.2 h
  have hordered : Ordered SceneEntry.key (sortEntries es) := by
    rw [sortEntries_eq_insertBy]
    exact ordered_foldr_insertBy SceneEntry.key es
  rw [List.Nodup, List.pairwise_map] at hnodup
  rw [List.pairwise_map]
  refine hordered.imp₂ (fun x y hle hne => lt_of_le_of_ne ?_ hne) hnodup
  simp only [KeyLe, SceneEntry.key] at hle
  exact Fin.le_def.2 (by omega)

/-! ## The carried scene (R125) -/

/-- The argument check of WRITE_SCENE lets only well-formed scenes pass (R122, R123). -/
theorem sceneAt_ok {p : List Byte} {c : Scene} (h : sceneAt p = some c) : c.Ok := by
  simp only [sceneAt, Option.bind_eq_bind, Option.bind_eq_some_iff, Option.ite_none_right_eq_some,
    Option.some.injEq, distinctLoads, decide_eq_true_eq] at h
  obtain ⟨es, hes, ⟨hfade, hpos, hmax, hnodup⟩, rfl⟩ := h
  obtain ⟨hlength, hlevels⟩ := entriesAt_inRange hes
  have hperm := sortEntries_perm es
  refine ⟨hfade, ?_, ?_, sortEntries_ascending hnodup, fun e he => hlevels e (hperm.mem_iff.1 he)⟩
  · rwa [hperm.length_eq, hlength]
  · rwa [hperm.length_eq, hlength]

/-- The payload of WRITE_SCENE for scene `n` (Table 11-3). -/
def scenePayload (n : SceneIx) (fade : Nat) (es : List SceneEntry) : List Byte :=
  byte n.val :: (word fade ++ byte es.length :: entryBytes es)

section scenePayload

variable {n : SceneIx} {fade : Nat} {es : List SceneEntry}

theorem byteAt_scenePayload (hmax : es.length ≤ 24) : byteAt (scenePayload n fade es) 3 = es.length :=
  byte_toNat (by omega)

/-- The payload has the length its entry count requires (R186). -/
theorem scenePayload_holds (hmax : es.length ≤ 24) :
    LengthRule.scene.holds (scenePayload n fade es) = true := by
  have hlength : (scenePayload n fade es).length = 4 + 3 * es.length := by
    simp only [scenePayload, word_eq, List.length_cons, List.length_append, List.length_nil,
      entryBytes_length]
    omega
  simp [LengthRule.holds, hlength, byteAt_scenePayload hmax]

/-- A well-formed scene reads back as its fade and its entries in ascending load index. -/
theorem sceneAt_scenePayload (hfade : fade ≤ 6000) (hpos : 1 ≤ es.length) (hmax : es.length ≤ 24)
    (hnodup : (es.map (·.load)).Nodup) (hlevels : ∀ e ∈ es, e.level ≤ 1000) :
    sceneAt (scenePayload n fade es) = some ⟨fade, sortEntries es⟩ := by
  have hword : wordAt (scenePayload n fade es) 1 = fade :=
    wordAt_word (by omega) (byte es.length :: entryBytes es)
  have hentries : entriesAt (scenePayload n fade es) 4 es.length = some es := by
    rw [scenePayload, word_eq]
    simpa using entriesAt_entryBytes hlevels
  simp [sceneAt, byteAt_scenePayload hmax, hword, hentries, hfade, hpos, hmax, distinctLoads, hnodup]

end scenePayload

/-! ## The store -/

namespace SceneStore

variable (x : SceneStore) (n : SceneIx)

/-- Pool entries there are for scene `n`: the free ones and its own (R126). -/
def room : Nat := x.free + heldEntries (x.scenes.get n)

/-- The store with `c` for scene `n`, which gives its old entries back and takes the new ones. -/
def put (c : Option Scene) : SceneStore := ⟨x.scenes.set n c, x.room n - heldEntries c⟩

variable {x n}

@[simp] theorem put_free (c : Option Scene) : (x.put n c).free = x.room n - heldEntries c := rfl

@[simp] theorem get_put_self (c : Option Scene) : (x.put n c).scenes.get n = c := Table.get_set_self _ _ _

@[simp] theorem get_put_ne {m : SceneIx} (h : m ≠ n) (c : Option Scene) :
    (x.put n c).scenes.get m = x.scenes.get m := Table.get_set_ne _ h _

theorem held_eq_sum (x : SceneStore) : x.held = ∑ n, heldEntries (x.scenes.get n) :=
  (Fin.sum_univ_def _).symm

/-- The scenes other than `n` hold what they held. -/
theorem held_put (c : Option Scene) :
    (x.put n c).held + heldEntries (x.scenes.get n) = x.held + heldEntries c := by
  rw [held_eq_sum, held_eq_sum, Fin.sum_univ_succAbove _ n,
    Fin.sum_univ_succAbove (fun m => heldEntries (x.scenes.get m)) n]
  simp only [get_put_self, get_put_ne (Fin.succAbove_ne n _)]
  omega

/-- With room for the new entries none is lost and none is made (R124). -/
theorem free_add_held_put {c : Option Scene} (h : heldEntries c ≤ x.room n) :
    (x.put n c).free + (x.put n c).held = x.free + x.held := by
  have hheld := held_put (x := x) (n := n) c
  rw [put_free]
  unfold room at h ⊢
  omega

end SceneStore

/-! ## WRITE_SCENE and DELETE_SCENE -/

def State.putScene (s : State) (n : SceneIx) (c : Option Scene) : State :=
  { s with scenes := s.scenes.put n c }

section bodies

variable {p payload : List Byte} {s v : State} {n : SceneIx} {c : Scene}

theorem writeScene_ok (hn : indexAt 32 p 0 = some n) (hc : sceneAt p = some c)
    (hroom : c.entries.length ≤ s.scenes.room n) : writeScene p s = .ok (s.putScene n (some c), []) := by
  have hholds : decide (c.entries.length ≤ s.scenes.free + heldEntries (s.scenes.scenes.get n)) = true :=
    decide_eq_true hroom
  simp only [writeScene, hn, hc, argument_some, ok_bind, hholds, require_true]
  rfl

theorem writeScene_noSpace (hn : indexAt 32 p 0 = some n) (hc : sceneAt p = some c)
    (hroom : s.scenes.room n < c.entries.length) : writeScene p s = .error .noSpace := by
  have hfails : decide (c.entries.length ≤ s.scenes.free + heldEntries (s.scenes.scenes.get n)) = false :=
    decide_eq_false (not_le.2 hroom)
  simp only [writeScene, hn, hc, argument_some, ok_bind, hfails, require_false, error_bind]

theorem deleteScene_ok (hn : indexAt 32 p 0 = some n) (hc : s.scenes.scenes.get n = some c) :
    deleteScene p s = .ok (s.putScene n none, []) := by
  simp only [deleteScene, hn, hc, argument_some, ok_bind, Option.isSome_some, require_true,
    State.putScene, SceneStore.put, SceneStore.room]
  rfl

theorem deleteScene_undefined (hn : indexAt 32 p 0 = some n) (hc : s.scenes.scenes.get n = none) :
    deleteScene p s = .error .state := by
  simp only [deleteScene, hn, hc, argument_some, ok_bind, Option.isSome_none, require_false, error_bind]

/-- What WRITE_SCENE carries out is the put of a well-formed scene there is room for (R125, R126). -/
theorem put_of_writeScene (h : writeScene p s = .ok (v, payload)) :
    ∃ n c, c.Ok ∧ c.entries.length ≤ s.scenes.room n ∧ v.scenes = s.scenes.put n (some c) := by
  simp only [writeScene, bind_eq_ok, argument_eq_ok, require_eq_ok, pure_eq_ok, Prod.mk.injEq,
    decide_eq_true_eq] at h
  obtain ⟨n, -, c, hc, -, hroom, rfl, -⟩ := h
  exact ⟨n, c, sceneAt_ok hc, hroom, rfl⟩

/-- What DELETE_SCENE carries out is the put of no scene (R127). -/
theorem put_of_deleteScene (h : deleteScene p s = .ok (v, payload)) :
    ∃ n, v.scenes = s.scenes.put n none := by
  simp only [deleteScene, bind_eq_ok, argument_eq_ok, require_eq_ok, pure_eq_ok, Prod.mk.injEq] at h
  obtain ⟨n, -, -, -, rfl, -⟩ := h
  exact ⟨n, rfl⟩

end bodies

/-- A command that makes scene `n` what `c` is and changes nothing else but the Command Unit. -/
structure State.SetsScene (s u : State) (t : Nat) (n : SceneIx) (c : Option Scene) : Prop where
  scenes : u.scenes = s.scenes.put n c
  answers : s.Answers u .ok []
  frame : u = { s with now := max s.now t, scenes := u.scenes, port := u.port }

theorem State.SetsScene.others {s u : State} {t : Nat} {n : SceneIx} {c : Option Scene}
    (h : s.SetsScene u t n c) : ∀ m, m ≠ n → u.scenes.scenes.get m = s.scenes.scenes.get m := fun m hm => by
  rw [h.scenes, SceneStore.get_put_ne hm]

/-- A command whose body puts a scene. -/
theorem State.Executing.exec_putScene {s : State} {t : Nat} {c : Instr} {code : Byte} {p : List Byte}
    {body : List Byte → State → CommandResult} (h : s.Executing code p) (hc : Runs t c code body)
    {r : LengthRule} (hr : lengthRule code = some r) (hp : r.holds p = true) {n : SceneIx}
    {x : Option Scene} (hb : body p (s.at t) = .ok ((s.at t).putScene n x, [])) :
    ∃ u, exec c s = .next u ∧ s.SetsScene u t n x :=
  ⟨_, h.exec_ok hc hr hp hb, rfl, rfl, rfl⟩

/-- Settles O53: sorting keeps the number of entries, so the free count is that of the carried ones. -/
theorem sceneWriteAndDeleteKeepPool : Obligations.SceneWriteAndDeleteKeepPool := by
  constructor
  · intro s t n fade es hfade hpos hmax hnodup hlevels h room
    replace h : s.Executing 0x40#8 (scenePayload n fade es) := h
    have hn : indexAt 32 (scenePayload n fade es) 0 = some n := indexAt_byte n (by decide) _
    have hc := sceneAt_scenePayload (n := n) hfade hpos hmax hnodup hlevels
    have hlength := (sortEntries_perm es).length_eq
    rcases Nat.lt_or_ge room es.length with hlt | hle
    · obtain ⟨u, hu, hrefuses⟩ := h.exec_error (c := .writeScene t) (fun _ => rfl) rfl
        (scenePayload_holds hmax) (writeScene_noSpace (s := s.at t) hn hc (hlength ▸ hlt))
      exact ⟨u, hu, fun _ => hrefuses, fun hle => absurd hlt (not_lt.2 hle)⟩
    · obtain ⟨u, hu, hsets⟩ := h.exec_putScene (c := .writeScene t) (fun _ => rfl) rfl
        (scenePayload_holds hmax) (writeScene_ok (s := s.at t) hn hc (hlength ▸ hle))
      refine ⟨u, hu, fun hlt => absurd hlt (not_lt.2 hle), fun _ => ⟨⟨fade, sortEntries es⟩, ?_, rfl,
        sortEntries_perm es, sortEntries_ascending hnodup, ?_, hsets.others, hsets.answers, hsets.frame⟩⟩
      · rw [hsets.scenes, SceneStore.get_put_self]
      · rw [hsets.scenes, SceneStore.put_free, ← hlength]
        rfl
  · intro s t n h
    have hn : indexAt 32 [byte n.val] 0 = some n := indexAt_byte n (by decide) []
    cases hc : s.scenes.scenes.get n with
    | none =>
      obtain ⟨u, hu, hrefuses⟩ := h.exec_error (c := .deleteScene t) (fun _ => rfl) rfl rfl
        (deleteScene_undefined (s := s.at t) hn hc)
      exact ⟨u, hu, fun _ => hrefuses, nofun⟩
    | some c =>
      obtain ⟨u, hu, hsets⟩ := h.exec_putScene (c := .deleteScene t) (fun _ => rfl) rfl rfl
        (deleteScene_ok (s := s.at t) hn hc)
      refine ⟨u, hu, nofun, ?_⟩
      rintro c' ⟨⟩
      refine ⟨?_, ?_, hsets.others, hsets.answers, hsets.frame⟩
      · rw [hsets.scenes, SceneStore.get_put_self]
      · rw [hsets.scenes, SceneStore.put_free, SceneStore.room, hc]
        rfl

end Sys2Proof.Machine
end

section
/-!
SUPPORT. What a step does to the Scene Store: every command leaves it alone but the hardware resets,
WRITE_SCENE and DELETE_SCENE, and those keep the pool and the form of the scenes.
-/

namespace Sys2Proof.Machine

/-! ## What may become of the store -/

/-- The Scene Store after a step from `x`: kept, reset (R137), or with one scene written or deleted for which
there is room (R126, R127). -/
inductive SceneStore.Next (x : SceneStore) : SceneStore → Prop
  | kept : Next x x
  | reset : Next x .reset
  | put (n : SceneIx) (c : Option Scene) (hok : ∀ a ∈ c, a.Ok) (hroom : heldEntries c ≤ x.room n) :
      Next x (x.put n c)

theorem SceneStore.free_add_held_reset : reset.free + reset.held = Config.poolSize := by
  simp [held, reset, heldEntries]

/-- Free and held entries go on making 192 (R124). -/
theorem SceneStore.Next.pool {x y : SceneStore} (h : x.Next y) (hx : x.free + x.held = Config.poolSize) :
    y.free + y.held = Config.poolSize := by
  cases h with
  | kept => exact hx
  | reset => exact free_add_held_reset
  | put n c _ hroom => rw [free_add_held_put hroom, hx]

/-- The scenes stay well-formed (R122, R123). -/
theorem SceneStore.Next.scenes {x y : SceneStore} (h : x.Next y) (hx : ∀ m, ∀ c ∈ x.scenes.get m, c.Ok) :
    ∀ m, ∀ c ∈ y.scenes.get m, c.Ok := by
  cases h with
  | kept => exact hx
  | reset =>
    intro m c hc
    simp [SceneStore.reset] at hc
  | put n c hok _ =>
    intro m
    by_cases hm : m = n
    · subst hm
      rwa [get_put_self]
    · rw [get_put_ne hm]
      exact hx m

namespace State

variable {s u v : State}

/-! ## The operations that leave the store alone -/

section operations

variable (s)

@[simp] theorem stopHoldOf_scenes (i : SlotIx) : (s.stopHoldOf i).scenes = s.scenes := by
  unfold stopHoldOf
  split <;> rfl

@[simp] theorem judgeCheck_scenes (n : LoadIx) (conducting : Bool) :
    (s.judgeCheck n conducting).scenes = s.scenes := by
  unfold judgeCheck
  dsimp only
  repeat' split
  all_goals rfl

@[simp] theorem sampleQuiet_scenes (l : Line) (set : LoadSet) :
    (s.sampleQuiet l set).scenes = s.scenes := rfl

@[simp] theorem continueTrain_scenes (x : SlotPulse) : (s.continueTrain x).scenes = s.scenes := by
  unfold continueTrain handOver
  dsimp only
  split <;> split <;> rfl

/-- A line that moves, is lost or has a boundary reaches no scene. -/
@[simp] theorem moveTracker_scenes (l : Line) (m : Move) : (s.moveTracker l m).scenes = s.scenes := by
  have hevent (w : State) (e : Option LineEvent) : (w.lineEvent l e).scenes = w.scenes := by
    unfold lineEvent
    split
    · rfl
    · rfl
    · rfl
    · exact loseLine_scenes w l
  unfold moveTracker
  dsimp only
  split
  · rw [hevent]
  · rw [announce_scenes, hevent]

@[simp] theorem configureTracker_scenes (before after : PerLine Bool) (l : Line) :
    (s.configureTracker before after l).scenes = s.scenes := moveTracker_scenes s l _

@[simp] theorem switchLink_scenes (before after : Bool) :
    (s.switchLink before after).scenes = s.scenes := by
  unfold switchLink
  dsimp only
  split
  · rfl
  · split <;> rfl

@[simp] theorem failPoll_scenes (i : SlotIx) : (s.failPoll i).scenes = s.scenes := by
  unfold failPoll
  dsimp only
  split
  · rfl
  · rfl
  · split
    · rfl
    · exact stopHoldOf_scenes s i

@[simp] theorem answer_scenes (i : SlotIx) : (s.answer i).scenes = s.scenes := by
  unfold answer
  split <;> rfl

@[simp] theorem stationRecall_scenes (i : SlotIx) (n : SceneIx) :
    (s.stationRecall i n).scenes = s.scenes := by
  unfold stationRecall
  split <;> rfl

@[simp] theorem startHold_scenes (i : SlotIx) (z : Zone) (d : Direction) :
    (s.startHold i z d).scenes = s.scenes := by
  unfold startHold
  dsimp only
  split
  · rfl
  · exact stopHoldOf_scenes s i

@[simp] theorem endHold_scenes (i : SlotIx) (z : Zone) : (s.endHold i z).scenes = s.scenes := by
  unfold endHold
  split
  · exact stopHoldOf_scenes s i
  · rfl

@[simp] theorem zoneOff_scenes (i : SlotIx) (z : Zone) : (s.zoneOff i z).scenes = s.scenes := rfl

end operations

/-! ### Requests of stations -/

theorem judge_scenes (i : SlotIx) (seq : Bool) (refusal : Option Reason) {carryOut : State → State}
    (h : ∀ v : State, (carryOut v).scenes = v.scenes) :
    (s.judge i seq refusal carryOut).scenes = s.scenes := by
  unfold judge
  split
  · rfl
  · split
    · rfl
    · exact h _

/-- A Reply row whose requests leave the scenes alone. -/
def HandlesScenes (handle : Request → Option (SlotIx → State → State)) : Prop :=
  ∀ r f, handle r = some f → ∀ i v, (f i v).scenes = v.scenes

theorem takeReply_scenes (frame : List Byte) {handle : Request → Option (SlotIx → State → State)}
    (h : HandlesScenes handle) : (s.takeReply frame handle).scenes = s.scenes := by
  unfold takeReply
  split
  · rfl
  · split
    · rfl
    · rename_i q _ _ f hf
      obtain ⟨r, -, hr⟩ := Option.bind_eq_some_iff.1 hf
      rw [chooseNext_scenes]
      split
      · rfl
      · rw [h r f hr, answer_scenes]

theorem handlesScenes_idle : HandlesScenes Request.takeIdle
  | .idle, _, rfl, _, _ => rfl

theorem handlesScenes_recall : HandlesScenes Request.takeRecall
  | .recall n seq, _, rfl, i, _ => judge_scenes i seq _ fun v => v.stationRecall_scenes i n

theorem handlesScenes_raise : HandlesScenes Request.takeRaise
  | .raiseStart z seq, _, rfl, i, _ => judge_scenes i seq _ fun v => v.startHold_scenes i z .raise

theorem handlesScenes_lower : HandlesScenes Request.takeLower
  | .lowerStart z seq, _, rfl, i, _ => judge_scenes i seq _ fun v => v.startHold_scenes i z .lower

theorem handlesScenes_holdStop : HandlesScenes Request.takeHoldStop
  | .holdStop z seq, _, rfl, i, _ => judge_scenes i seq _ fun v => v.endHold_scenes i z

theorem handlesScenes_off : HandlesScenes Request.takeOff
  | .off z seq, _, rfl, i, _ => judge_scenes i seq _ fun v => v.zoneOff_scenes i z

/-! ## The bodies of the commands -/

/-- The store a command body leaves where it carries its command out; a refusal changes nothing (R167). -/
def BodyNext (s : State) (r : CommandResult) : Prop :=
  ∀ v payload, r = .ok (v, payload) → s.scenes.Next v.scenes

theorem BodyNext.bind {α : Type} {x : Except Status α} {f : α → CommandResult}
    (h : ∀ a, s.BodyNext (f a)) : s.BodyNext (x >>= f) := fun v payload hr => by
  obtain ⟨a, -, ha⟩ := bind_eq_ok.1 hr
  exact h a v payload ha

/-- A body whose result has the scenes of `s`. -/
theorem BodyNext.kept {r : State × List Byte} (h : r.1.scenes = s.scenes) : s.BodyNext (.ok r) := by
  rintro v payload ⟨⟩
  exact h ▸ .kept

theorem BodyNext.error (status : Status) : s.BodyNext (.error status) := fun _ _ h => nomatch h

theorem bodyNext_configureLines (p : List Byte) : s.BodyNext (configureLines p s) :=
  .bind fun _ => .kept (by simp)

theorem bodyNext_disableLoad (p : List Byte) : s.BodyNext (disableLoad p s) :=
  .bind fun _ => .bind fun _ => .kept <| by
    dsimp only
    split <;> simp

theorem bodyNext_commit (p : List Byte) : s.BodyNext (Machine.commit p s) :=
  .bind fun _ => .kept (by simp)

theorem bodyNext_configureLink (p : List Byte) : s.BodyNext (configureLink p s) :=
  .bind fun _ => .kept (by simp)

theorem bodyNext_enrollStation (p : List Byte) : s.BodyNext (enrollStation p s) := by
  refine .bind fun _ => .bind fun _ => ?_
  split
  · exact .error .noSpace
  · exact .kept rfl

theorem bodyNext_removeStation (p : List Byte) : s.BodyNext (removeStation p s) :=
  .bind fun _ => .bind fun _ => .kept (by simp)

theorem bodyNext_writeScene (p : List Byte) : s.BodyNext (writeScene p s) := fun v payload h => by
  obtain ⟨n, c, hok, hroom, hv⟩ := put_of_writeScene h
  rw [hv]
  exact .put n (some c) (by simpa using hok) hroom

theorem bodyNext_deleteScene (p : List Byte) : s.BodyNext (deleteScene p s) := fun v payload h => by
  obtain ⟨n, hv⟩ := put_of_deleteScene h
  rw [hv]
  exact .put n none (by simp) (Nat.zero_le _)

/-! ## Commands taken and frames executed -/

theorem next_takes {t : Nat} {f : State → State} (h : s.takes t f = .next u)
    (hf : ∀ v : State, v.scenes.Next (f v).scenes) : s.scenes.Next u.scenes := by
  rcases takes_cases h with rfl | rfl
  · exact .kept
  · exact hf (s.at t)

/-- An event that does nothing to the scenes. -/
theorem next_event {t : Nat} {f : State → State} (h : s.takes t f = .next u)
    (hf : ∀ v : State, (f v).scenes = v.scenes) : s.scenes.Next u.scenes :=
  next_takes h fun v => (hf v).symm ▸ .kept

theorem next_runs {t : Nat} {c : Instr} {code : Byte} (body : List Byte → State → CommandResult)
    (hc : Runs t c code body) (h : exec c s = .next u)
    (hb : ∀ (p : List Byte) (v : State), v.BodyNext (body p v)) : s.scenes.Next u.scenes := by
  refine next_takes (hc s ▸ h) fun v => ?_
  rcases v.execute_cases code body with hv | ⟨status, hv⟩ | ⟨p, w, payload, hw, hv⟩ <;> rw [hv]
  · exact .kept
  · exact .kept
  · exact hb p v w payload hw

/-- A Reply row that is taken. -/
theorem next_reply {t : Nat} {frame : List Byte} {handle : Request → Option (SlotIx → State → State)}
    (hh : HandlesScenes handle) (h : s.takes t (fun v => v.takeReply frame handle) = .next u) :
    s.scenes.Next u.scenes :=
  next_event h fun _ => takeReply_scenes frame hh

/-! ## Events, one by one -/

theorem next_execPowerOnReset (h : execPowerOnReset s = .next u) : s.scenes.Next u.scenes := by
  obtain rfl := Host.Outcome.next.inj h
  split <;> exact .reset

theorem next_execPinResetEnd {t : Nat} (h : execPinResetEnd t s = .next u) : s.scenes.Next u.scenes := by
  obtain rfl := Host.Outcome.next.inj h
  split <;> exact .kept

theorem next_execAlloffAssertion {t : Nat} (h : execAlloffAssertion t s = .next u) :
    s.scenes.Next u.scenes := by
  simp only [execAlloffAssertion] at h
  split at h <;> obtain rfl := Host.Outcome.next.inj h <;> exact .kept

theorem next_execAlloffRelease {t : Nat} (h : execAlloffRelease t s = .next u) :
    s.scenes.Next u.scenes := by
  simp only [execAlloffRelease] at h
  split at h <;> obtain rfl := Host.Outcome.next.inj h <;> exact .kept

theorem next_execZeroCrossEdge {t : Nat} {l : Line} {level : Bool}
    (h : execZeroCrossEdge t l level s = .next u) : s.scenes.Next u.scenes := by
  unfold execZeroCrossEdge at h
  exact next_event (s := { s with zc := s.zc.set l level }) h fun v => v.moveTracker_scenes l _

theorem next_execPulseEnd {t : Nat} {n : LoadIx} (h : execPulseEnd t n s = .next u) :
    s.scenes.Next u.scenes := by
  refine next_event h fun v => ?_
  split
  · rfl
  · exact continueTrain_scenes _ _

theorem next_execLatestStartPassed {t : Nat} {n : LoadIx} (h : execLatestStartPassed t n s = .next u) :
    s.scenes.Next u.scenes := by
  refine next_event h fun v => ?_
  split <;> rfl

theorem next_execHeldDriveStart {t : Nat} {n : LoadIx} (h : execHeldDriveStart t n s = .next u) :
    s.scenes.Next u.scenes := by
  refine next_event h fun v => ?_
  split <;> rfl

theorem next_execHeldDriveEnd {t : Nat} {n : LoadIx} {level : Bool}
    (h : execHeldDriveEnd t n level s = .next u) : s.scenes.Next u.scenes := by
  refine next_event h fun v => ?_
  split
  · rfl
  · exact judgeCheck_scenes _ n level

theorem next_execPostFiringCheck {t : Nat} {n : LoadIx} {level : Bool}
    (h : execPostFiringCheck t n level s = .next u) : s.scenes.Next u.scenes := by
  refine next_event h fun v => ?_
  split
  · rfl
  · exact judgeCheck_scenes _ n level

theorem next_execQuietSample {t : Nat} {l : Line} {levels : LoadSet}
    (h : execQuietSample t l levels s = .next u) : s.scenes.Next u.scenes := by
  refine next_event h fun v => ?_
  split
  · rfl
  · split <;> rfl

theorem next_execHoldExpiry {t : Nat} {i : SlotIx} (h : execHoldExpiry t i s = .next u) :
    s.scenes.Next u.scenes := by
  refine next_event h fun v => ?_
  split
  · rfl
  · split
    · exact v.stopHoldOf_scenes i
    · rfl

theorem next_execPoll {t : Nat} (h : execPoll t s = .next u) : s.scenes.Next u.scenes := by
  refine next_event h fun v => ?_
  repeat' split
  all_goals rfl

theorem next_execReplyWindowClose {t : Nat} (h : execReplyWindowClose t s = .next u) :
    s.scenes.Next u.scenes := by
  refine next_event h fun v => ?_
  split
  · rfl
  · split
    · rw [chooseNext_scenes]
      split
      · rfl
      · exact failPoll_scenes _ _
    · rfl

theorem next_execReplyNotValid {t : Nat} {frame : List Byte} (h : execReplyNotValid t frame s = .next u) :
    s.scenes.Next u.scenes := by
  refine next_event h fun v => ?_
  repeat' split
  all_goals rfl

/-- Transactions reach the Command Unit alone. -/
theorem next_transaction {t : Nat} (taken : State → Bool) (f : State → CommandUnit)
    (h : (s.takes t fun s => if taken s then { s with port := f s } else s) = .next u) :
    s.scenes.Next u.scenes := by
  refine next_event h fun v => ?_
  split <;> rfl

theorem next_execUnknownCommand {t : Nat} (h : execUnknownCommand t s = .next u) :
    s.scenes.Next u.scenes := by
  refine next_event h fun v => ?_
  repeat' split
  all_goals rfl

theorem next_execFrameNotIntact {t : Nat} (h : execFrameNotIntact t s = .next u) :
    s.scenes.Next u.scenes := by
  refine next_event h fun v => ?_
  repeat' split
  all_goals rfl

/-! ## The step -/

/-- What a command may do to the Scene Store. -/
theorem next_exec {c : Instr} (h : exec c s = .next u) : s.scenes.Next u.scenes := by
  cases c with
  | powerOnReset => exact next_execPowerOnReset h
  | pinReset t => exact next_takes (show execPinReset t s = _ from h) fun _ => .reset
  | pinResetEnd t => exact next_execPinResetEnd h
  | alloffAssertion t => exact next_execAlloffAssertion h
  | alloffRelease t => exact next_execAlloffRelease h
  | zeroCrossEdge t line level => exact next_execZeroCrossEdge h
  | acquisitionTimeout t line =>
    exact next_event (show execAcquisitionTimeout t line s = _ from h) fun _ => rfl
  | acceptanceWindowClose t line =>
    exact next_event (show execAcceptanceWindowClose t line s = _ from h) fun v =>
      v.moveTracker_scenes line _
  | pulseDue t => exact next_event (show execPulseDue t s = _ from h) fun _ => rfl
  | pulseEnd t load => exact next_execPulseEnd h
  | latestStartPassed t load => exact next_execLatestStartPassed h
  | heldDriveStart t load => exact next_execHeldDriveStart h
  | heldDriveEnd t load level => exact next_execHeldDriveEnd h
  | postFiringCheck t load level => exact next_execPostFiringCheck h
  | quietSample t line levels => exact next_execQuietSample h
  | holdExpiry t slot => exact next_execHoldExpiry h
  | poll t => exact next_execPoll h
  | replyWindowClose t => exact next_execReplyWindowClose h
  | idle t frame => exact next_reply handlesScenes_idle h
  | raiseStart t frame => exact next_reply handlesScenes_raise h
  | lowerStart t frame => exact next_reply handlesScenes_lower h
  | holdStop t frame => exact next_reply handlesScenes_holdStop h
  | off t frame => exact next_reply handlesScenes_off h
  | replyNotValid t frame => exact next_execReplyNotValid h
  | commandWrite t csFell frame =>
    exact next_transaction (t := t) (·.portTakes csFell)
      (fun v =>
        let w : CommandUnit := { v.port with sdo := sdoHigh frame.length }
        if frame = [] then w else w.takeFrame frame) h
  | responseRead t csFell clocked =>
    exact next_transaction (t := t) (·.portTakes csFell) (·.port.read clocked) h
  | transactionIgnored t csFell bytes =>
    exact next_transaction (t := t) (·.portTakes csFell)
      (fun v => { v.port with sdo := sdoHigh (bytes.length - 1) }) h
  | unknownCommand t => exact next_execUnknownCommand h
  | frameNotIntact t => exact next_execFrameNotIntact h
  | configureLines t =>
    exact next_runs configureLines (fun _ => rfl) h fun p _ => bodyNext_configureLines p
  | disableLoad t => exact next_runs disableLoad (fun _ => rfl) h fun p _ => bodyNext_disableLoad p
  | commit t => exact next_runs Machine.commit (fun _ => rfl) h fun p _ => bodyNext_commit p
  | configureLink t => exact next_runs configureLink (fun _ => rfl) h fun p _ => bodyNext_configureLink p
  | enrollStation t => exact next_runs enrollStation (fun _ => rfl) h fun p _ => bodyNext_enrollStation p
  | removeStation t => exact next_runs removeStation (fun _ => rfl) h fun p _ => bodyNext_removeStation p
  | writeScene t => exact next_runs writeScene (fun _ => rfl) h fun p _ => bodyNext_writeScene p
  | deleteScene t => exact next_runs deleteScene (fun _ => rfl) h fun p _ => bodyNext_deleteScene p
  | readLine t => exact next_runs readLine (fun _ => rfl) h fun _ _ => .bind fun _ => .kept rfl
  | defineLoad t =>
    exact next_runs defineLoad (fun _ => rfl) h fun _ _ =>
      .bind fun _ => .bind fun _ => .bind fun _ => .kept rfl
  | enableLoad t =>
    exact next_runs enableLoad (fun _ => rfl) h fun _ _ =>
      .bind fun _ => .bind fun _ => .bind fun _ => .kept rfl
  | releaseLoad t =>
    exact next_runs releaseLoad (fun _ => rfl) h fun _ _ =>
      .bind fun _ => .bind fun _ => .bind fun _ => .kept rfl
  | setLevel t =>
    exact next_runs setLevel (fun _ => rfl) h fun _ _ =>
      .bind fun _ => .bind fun _ => .bind fun _ => .bind fun _ => .kept rfl
  | setLock t =>
    exact next_runs setLock (fun _ => rfl) h fun _ _ =>
      .bind fun _ => .bind fun _ => .bind fun _ => .kept rfl
  | clearFault t =>
    exact next_runs clearFault (fun _ => rfl) h fun _ _ => .bind fun _ => .bind fun _ => .kept rfl
  | readLoad t => exact next_runs readLoad (fun _ => rfl) h fun _ _ => .bind fun _ => .kept rfl
  | stageLoad t =>
    exact next_runs stageLoad (fun _ => rfl) h fun _ _ =>
      .bind fun _ => .bind fun _ => .bind fun _ => .bind fun _ => .kept rfl
  | discardStaged t =>
    exact next_runs discardStaged (fun _ => rfl) h fun _ _ =>
      .bind fun _ => .bind fun _ => .bind fun _ => .kept rfl
  | readCommit t => exact next_runs readCommit (fun _ => rfl) h fun _ _ => .kept rfl
  | readScene t => exact next_runs readScene (fun _ => rfl) h fun _ _ => .bind fun _ => .kept rfl
  | recallScene t =>
    exact next_runs Machine.recallScene (fun _ => rfl) h fun _ _ =>
      .bind fun _ => .bind fun _ => .bind fun _ => .bind fun _ => .kept rfl
  | readPool t => exact next_runs readPool (fun _ => rfl) h fun _ _ => .kept rfl
  | readStation t => exact next_runs readStation (fun _ => rfl) h fun _ _ => .bind fun _ => .kept rfl
  | readSummary t => exact next_runs readSummary (fun _ => rfl) h fun _ _ => .kept rfl
  | readEvents t => exact next_runs readEvents (fun _ => rfl) h fun _ _ => .bind fun _ => .kept rfl
  | setEventMask t => exact next_runs setEventMask (fun _ => rfl) h fun _ _ => .bind fun _ => .kept rfl
  | allOff t => exact next_runs Machine.allOff (fun _ => rfl) h fun _ _ => .kept rfl
  | identify t => exact next_runs identify (fun _ => rfl) h fun _ _ => .kept rfl
  | restart t => exact next_runs restart (fun _ => rfl) h fun _ _ => .kept rfl
  | _ =>
    -- The RECALL row: its constructor is named by a word that Mathlib reserves.
    exact next_reply handlesScenes_recall h

theorem next_step (h : step s = .next u) : s.scenes.Next u.scenes := by
  unfold step at h
  split at h
  · obtain rfl := Host.Outcome.next.inj h
    exact .kept
  · rename_i c rest _
    exact next_exec (s := { s with pending := rest }) h

end State

/-- Settles O5: a step puts one scene at most, and a put keeps the sum of free and held entries. -/
theorem stepKeepsScenePool : Obligations.StepKeepsScenePool :=
  fun _ _ hpool hscenes h => ⟨(State.next_step h).pool hpool, (State.next_step h).scenes hscenes⟩

end Sys2Proof.Machine
end

section
/-!
SUPPORT. The station table by itself: the rules of a slot (R138), the ramps of holds (R64), and what a choice
of the next slot leaves (R146).
-/

namespace Sys2Proof.Machine

/-! ## The rules of a slot (R138) -/

theorem SlotState.eq_online {x : SlotState} (huse : x ≠ .empty) (hoff : x ≠ .offline) : x = .online := by
  cases x with
  | empty => exact absurd rfl huse
  | offline => exact absurd rfl hoff
  | online => rfl

namespace StationSlot

variable {x y : StationSlot}

theorem ok_iff_of_station {e : Enrolment} (hs : x.station = some e) :
    x.Ok ↔ x.state ≠ .empty ∧ 1 ≤ e.address ∧ e.address ≤ 31 ∧ x.failCount < Config.failsToOffline ∧
      (x.state ≠ .online → x.failCount = 0 ∧ x.hold = none) := by
  simp [StationSlot.Ok, hs]

/-- A sound EMPTY slot is vacated. -/
theorem Ok.eq_vacated (h : x.Ok) (hs : x.state = .empty) : x = .vacated := by
  cases hx : x.station with
  | none => simpa [StationSlot.Ok, hx] using h
  | some e => exact absurd hs ((ok_iff_of_station hx).1 h).1

/-- A sound slot in use holds an address. -/
theorem Ok.exists_station (h : x.Ok) (hs : x.state ≠ .empty) : ∃ e, x.station = some e := by
  cases hx : x.station with
  | none =>
    have hv : x = .vacated := by simpa [StationSlot.Ok, hx] using h
    exact absurd (congrArg StationSlot.state hv) hs
  | some e => exact ⟨e, rfl⟩

/-- A slot in use is one with an address. -/
theorem Ok.inUse_iff (h : x.Ok) : x.state ≠ .empty ↔ ∃ e, x.station = some e :=
  ⟨h.exists_station, fun ⟨_, he⟩ => ((ok_iff_of_station he).1 h).1⟩

theorem Ok.station_of_empty (h : x.Ok) (hs : x.state = .empty) : x.station = none := by
  rw [h.eq_vacated hs]
  rfl

theorem Ok.hold_of_empty (h : x.Ok) (hs : x.state = .empty) : x.hold = none := by
  rw [h.eq_vacated hs]
  rfl

/-- A slot in use may go ONLINE, with any hold and a fail_count below 5. -/
theorem Ok.online (h : x.Ok) (huse : x.state ≠ .empty) (hstation : y.station = x.station)
    (hs : y.state = .online) (hf : y.failCount < Config.failsToOffline) : y.Ok := by
  obtain ⟨e, he⟩ := h.exists_station huse
  obtain ⟨-, hmin, hmax, -⟩ := (ok_iff_of_station he).1 h
  exact (ok_iff_of_station (hstation.trans he)).2 ⟨by simp [hs], hmin, hmax, hf, fun hn => absurd hs hn⟩

/-- A slot in use may go OFFLINE, without failures and without a hold (R148). -/
theorem Ok.offline (h : x.Ok) (huse : x.state ≠ .empty) (hstation : y.station = x.station)
    (hs : y.state = .offline) (hf : y.failCount = 0) (hh : y.hold = none) : y.Ok := by
  obtain ⟨e, he⟩ := h.exists_station huse
  obtain ⟨-, hmin, hmax, -⟩ := (ok_iff_of_station he).1 h
  exact (ok_iff_of_station (hstation.trans he)).2
    ⟨by simp [hs], hmin, hmax, by rw [hf]; decide, fun _ => ⟨hf, hh⟩⟩

theorem Ok.failCount_lt (h : x.Ok) : x.failCount < Config.failsToOffline := by
  by_cases hs : x.state = .empty
  · rw [h.eq_vacated hs]
    decide
  · obtain ⟨e, he⟩ := h.exists_station hs
    obtain ⟨-, -, -, hf, -⟩ := (ok_iff_of_station he).1 h
    exact hf

theorem Ok.stopHold (h : x.Ok) : Ok { x with hold := none } := by
  by_cases hs : x.state = .empty
  · rw [h.eq_vacated hs]
    rfl
  · obtain ⟨e, he⟩ := h.exists_station hs
    obtain ⟨huse, hmin, hmax, hf, hoff⟩ := (ok_iff_of_station he).1 h
    exact (ok_iff_of_station (x := { x with hold := none }) he).2
      ⟨huse, hmin, hmax, hf, fun hn => ⟨(hoff hn).1, rfl⟩⟩

theorem Ok.softReset (h : x.Ok) : x.softReset.Ok := by
  unfold StationSlot.softReset
  split
  · exact h
  · rename_i huse
    exact h.offline huse rfl rfl rfl rfl

@[simp] theorem softReset_station (x : StationSlot) : x.softReset.station = x.station := by
  unfold StationSlot.softReset
  split <;> rfl

end StationSlot

/-! ## Ramps of holds (R64) -/

namespace Record

variable {r v : Record}

/-- The record ramps under the hold of slot `i`. -/
def RampsFor (r : Record) (i : SlotIx) : Prop := ∃ x, r.ramp = some x ∧ x.origin = .hold i

/-- From `r` to `v` no ramp of a hold begins. -/
def NoNewHold (r v : Record) : Prop := ∀ i, v.RampsFor i → r.RampsFor i

theorem NoNewHold.refl (r : Record) : NoNewHold r r := fun _ h => h

theorem noNewHold_of_ramp (h : v.ramp = r.ramp) : NoNewHold r v := fun _ hv => by rwa [RampsFor, ← h]

theorem not_rampsFor_of_none (h : v.ramp = none) (i : SlotIx) : ¬ v.RampsFor i := by
  simp [RampsFor, h]

theorem noNewHold_of_none (h : v.ramp = none) : NoNewHold r v :=
  fun i hv => absurd hv (not_rampsFor_of_none h i)

/-- A level claim makes no ramp of a hold (R49). -/
theorem noNewHold_claim (target fade p : Nat) {origin : Origin} (ho : ∀ i, origin ≠ .hold i) :
    NoNewHold r (r.claim target fade p origin) := by
  rintro i ⟨x, hx, hi⟩
  exact absurd ((r.claim_ramp target fade p origin hx).symm.trans hi) (ho i)

/-- A hold claim makes no ramp but one of its own slot (R62). -/
theorem rampsFor_claimHold {d : Direction} {step : Nat} {slot i : SlotIx}
    (h : (r.claimHold d step slot).RampsFor i) : r.RampsFor i ∨ i = slot := by
  cases hc : r.config with
  | none =>
    rw [claimHold, hc] at h
    exact .inl h
  | some c =>
    rw [claimHold_eq r hc] at h
    split at h
    · exact .inl h
    · obtain ⟨x, hx, hi⟩ := h
      dsimp only at hx
      split at hx
      · simp at hx
      · obtain rfl := Option.some.inj hx
        exact .inr (Origin.hold.inj hi).symm

/-- A ramp keeps its origin through its steps (R55). -/
theorem noNewHold_atBoundary (b : Boundary) : NoNewHold r (r.atBoundary b) := by
  have hstep : NoNewHold r r.rampStep := by
    rintro i ⟨x, hx, hi⟩
    obtain ⟨y, hy, rfl, -⟩ := r.rampStep_ramp hx
    exact ⟨y, hy, hi⟩
  by_cases h : r.state = .active ∧ r.onLine b.line = true
  · rw [atBoundary_active h]
    split
    · intro i hi
      rw [RampsFor, decideBurst_ramp] at hi
      exact hstep i hi
    · exact hstep
  · rw [atBoundary_other h]
    exact .refl r

@[simp] theorem judgeQuiet_ramp (conducting : Bool) : (r.judgeQuiet conducting).ramp = r.ramp := by
  unfold judgeQuiet
  split
  · split <;> rfl
  · rfl

end Record

/-! ## The parts of the station link -/

namespace StationLink

variable {k m : StationLink}

/-- Rules about addresses see the enrolments alone. -/
theorem AddressesOk.congr (h : k.AddressesOk)
    (hs : ∀ i, (m.slots.get i).station = (k.slots.get i).station) : m.AddressesOk := by
  intro i j hij
  rw [hs, hs]
  exact h i j hij

theorem PollOk.congr (h : k.PollOk) (hp : m.poll = k.poll)
    (hs : ∀ i, (m.slots.get i).station = (k.slots.get i).station) : m.PollOk := by
  intro q hq
  rw [hs]
  exact h q (hp ▸ hq)

theorem pollOk_of_none (h : m.poll = none) : m.PollOk := by simp [PollOk, h]

theorem pollOk_of_some {q : Poll} (hp : m.poll = some q)
    (h : q.discard = none → (m.slots.get q.slot).station.map (·.address) = some q.address) : m.PollOk := by
  intro q' hq
  obtain rfl := Option.some.inj (hp.symm.trans hq)
  exact h

/-- A poll marked for discard asks nothing of its slot (R147). -/
theorem pollOk_of_discard (h : ∀ q ∈ m.poll, q.discard.isSome = true) : m.PollOk := by
  intro q hq hd
  exact absurd (h q hq) (by simp [hd])

/-- A choice goes on being sound while the slots keep their states and a poll in flight is kept. -/
theorem ChoiceOk.congr (h : k.ChoiceOk) (he : m.enable = k.enable) (hc : m.chosen = k.chosen)
    (hp : m.poll = none → k.poll = none)
    (hs : ∀ i, (m.slots.get i).state = (k.slots.get i).state) : m.ChoiceOk := by
  obtain ⟨hchosen, hsome⟩ := h
  unfold ChoiceOk
  simp only [he, hc, hs]
  exact ⟨hchosen, fun hon hpoll huse => hsome hon (hp hpoll) huse⟩

theorem Picks.expects {c : Choice} (h : k.Picks c) : (k.slots.get c.slot).state = c.expects := by
  cases c with
  | online i =>
    obtain ⟨-, ⟨hi, -⟩, -⟩ := h
    exact hi
  | rediscovery i =>
    obtain ⟨-, -, hi, -⟩ := h
    exact hi

/-- Whatever a choice starts from, what it leaves is sound: a slot in the state in which it was chosen, and
one wherever the link is on and a slot in use (R146). -/
theorem choiceOk_of_chooses (h : k.Chooses m) : m.ChoiceOk := by
  obtain ⟨hoff, hempty, hpick⟩ := h
  cases he : k.enable with
  | false =>
    rw [hoff he]
    simp [ChoiceOk, he]
  | true =>
    by_cases huse : ∃ i, (k.slots.get i).state ≠ .empty
    · obtain ⟨c, ⟨hc, rfl⟩ | ⟨-, hc, rfl⟩⟩ := hpick he huse <;>
        simpa [ChoiceOk, he] using hc.expects
    · have hall : ∀ i, (k.slots.get i).state = .empty := by simpa using huse
      rw [hempty he hall]
      simp [ChoiceOk, hall]

theorem choiceOk_chooseNext (k : StationLink) : k.chooseNext.ChoiceOk :=
  choiceOk_of_chooses k.chooses_chooseNext

/-! ### The end of a poll and its discard -/

/-- A poll that ends leaves no poll in flight and holds the next Poll frame back (R143, R145). -/
theorem endPoll_eq {q : Poll} (h : k.poll = some q) (now : Nat) : k.endPoll now = { k with
    poll := none
    nextPollAt := if q.discard = some .stopped then k.nextPollAt else now + 200 } := by
  simp only [endPoll, h]
  split <;> rfl

theorem endPoll_eq_self (h : k.poll = none) (now : Nat) : k.endPoll now = k := by
  simp only [endPoll, h]

@[simp] theorem endPoll_poll (k : StationLink) (now : Nat) : (k.endPoll now).poll = none := by
  cases h : k.poll with
  | none => rw [endPoll_eq_self h, h]
  | some q => rw [endPoll_eq h]

@[simp] theorem endPoll_slots (k : StationLink) (now : Nat) : (k.endPoll now).slots = k.slots := by
  cases h : k.poll with
  | none => rw [endPoll_eq_self h]
  | some q => rw [endPoll_eq h]

theorem SettingsOk.endPoll (h : k.SettingsOk) (now : Nat) : (k.endPoll now).SettingsOk := by
  cases hp : k.poll with
  | none => rwa [endPoll_eq_self hp]
  | some q =>
    rw [endPoll_eq hp]
    exact h

/-- The mark of a poll whose slot is removed: an earlier mark stands (R140, R147). -/
theorem discardPoll_removed (k : StationLink) : k.discardPoll .removed = { k with
    poll := k.poll.map fun q => { q with discard := some (q.discard.getD .removed) } } := by
  unfold discardPoll
  cases k with
  | mk enable holdStep holdExpiry offFade slots poll => cases poll <;> rfl

end StationLink

end Sys2Proof.Machine
end

section
/-!
SUPPORT. What a step keeps of the station table (`State.LinkOk`, `State.HoldsOk`): the operations of the
Station Link Unit, and those that leave it alone and begin no ramp of a hold.
-/

namespace Sys2Proof.Machine

namespace State

variable {s u v : State}

/-! ## The invariant and its parts -/

/-- The station table is sound but for the choice of the next slot, which is made anew as a poll ends. -/
structure TableOk (s : State) : Prop where
  settings : s.link.SettingsOk
  slots : ∀ i, (s.slot i).Ok
  addresses : s.link.AddressesOk
  poll : s.link.PollOk
  holds : ∀ n i, (s.load n).RampsFor i → (s.slot i).hold.isSome = true

/-- The station table is sound (R64, R138, R146). -/
structure StationsOk (s : State) : Prop where
  table : s.TableOk
  choice : s.link.ChoiceOk

theorem holdsOk_iff :
    s.HoldsOk ↔ ∀ n i, (s.load n).RampsFor i → (s.slot i).hold.isSome = true :=
  ⟨fun h n i ⟨x, hx, hi⟩ => h n x hx i hi, fun h n x hx i hi => h n i ⟨x, hx, hi⟩⟩

theorem stationsOk_iff : s.StationsOk ↔ s.LinkOk ∧ s.HoldsOk := by
  rw [holdsOk_iff]
  constructor
  · rintro ⟨⟨hset, hslots, haddr, hpoll, hholds⟩, hchoice⟩
    exact ⟨⟨hset, hslots, haddr, hpoll, hchoice⟩, hholds⟩
  · rintro ⟨⟨hset, hslots, haddr, hpoll, hchoice⟩, hholds⟩
    exact ⟨⟨hset, hslots, haddr, hpoll, hholds⟩, hchoice⟩

theorem slot_congr (h : u.link = s.link) (i : SlotIx) : u.slot i = s.slot i := by
  rw [slot, slot, h]

/-! ## What leaves the stations alone -/

/-- From `s` to `u` the Station Link Unit is left alone, and no ramp of a hold begins. -/
structure SameStations (s u : State) : Prop where
  link : u.link = s.link
  ramps : ∀ n, (s.load n).NoNewHold (u.load n)

theorem SameStations.refl (s : State) : SameStations s s := ⟨rfl, fun _ => .refl _⟩

theorem SameStations.trans (h : SameStations s u) (h' : SameStations u v) : SameStations s v :=
  ⟨h'.link.trans h.link, fun n i hi => h.ramps n i (h'.ramps n i hi)⟩

theorem SameStations.frame (hk : u.link = s.link) (hl : u.loads = s.loads) : SameStations s u :=
  ⟨hk, fun n => (load_congr hl n).symm ▸ .refl _⟩

theorem SameStations.tableOk (h : SameStations s u) (hs : s.TableOk) : u.TableOk where
  settings := h.link ▸ hs.settings
  slots i := slot_congr h.link i ▸ hs.slots i
  addresses := h.link ▸ hs.addresses
  poll := h.link ▸ hs.poll
  holds n i hi := slot_congr h.link i ▸ hs.holds n i (h.ramps n i hi)

/-- The table sees the link and the load records alone. -/
theorem TableOk.congr (hs : s.TableOk) (hk : u.link = s.link) (hl : u.loads = s.loads) : u.TableOk :=
  (SameStations.frame hk hl).tableOk hs

theorem SameStations.stationsOk (h : SameStations s u) (hs : s.StationsOk) : u.StationsOk :=
  ⟨h.tableOk hs.table, h.link ▸ hs.choice⟩

theorem StationsOk.congr (hs : s.StationsOk) (hk : u.link = s.link) (hl : u.loads = s.loads) :
    u.StationsOk := (SameStations.frame hk hl).stationsOk hs

theorem sameStations_modifyLoad {n : LoadIx} {f : Record → Record}
    (h : (s.load n).NoNewHold (f (s.load n))) : SameStations s (s.modifyLoad n f) := by
  refine ⟨rfl, fun m => ?_⟩
  by_cases hm : m = n
  · subst hm
    rwa [load_modifyLoad_self]
  · rw [load_modifyLoad_ne s hm]
    exact .refl _

theorem sameStations_mapLoads {f : LoadIx → Record → Record}
    (h : ∀ n, (s.load n).NoNewHold (f n (s.load n))) : SameStations s (s.mapLoads f) :=
  ⟨rfl, fun n => by
    rw [load_mapLoads]
    exact h n⟩

theorem sameStations_applyMembers (p : LoadIx → Bool) : SameStations s (s.applyMembers p) := by
  refine ⟨applyMembers_link s p, fun n => ?_⟩
  rw [load_applyMembers]
  split
  · exact Record.noNewHold_of_ramp (Record.applyStaged_ramp _)
  · exact .refl _

theorem sameStations_skipLoads (p : LoadIx → Bool) : SameStations s (s.skipLoads p) := by
  refine ⟨rfl, fun n => ?_⟩
  rw [load_skipLoads]
  split
  · exact Record.noNewHold_of_ramp rfl
  · exact .refl _

theorem sameStations_faultLoads (p : LoadIx → Bool) (cause : FaultCause) :
    SameStations s (s.faultLoads p cause) := by
  refine ⟨rfl, fun n => ?_⟩
  rw [load_faultLoads]
  split
  · exact Record.noNewHold_of_none rfl
  · exact .refl _

theorem sameStations_judgeCheck (n : LoadIx) (conducting : Bool) :
    SameStations s (s.judgeCheck n conducting) := by
  unfold judgeCheck
  dsimp only
  split
  · split
    · exact sameStations_modifyLoad (Record.noNewHold_of_ramp rfl)
    · split
      · exact sameStations_modifyLoad (Record.noNewHold_of_ramp rfl)
      · exact sameStations_faultLoads _ _
  · exact .refl s

theorem sameStations_sampleQuiet (l : Line) (set : LoadSet) : SameStations s (s.sampleQuiet l set) := by
  unfold sampleQuiet
  dsimp only
  refine (sameStations_mapLoads fun n => ?_).trans (sameStations_faultLoads _ _)
  split
  · exact Record.noNewHold_of_ramp (Record.judgeQuiet_ramp _)
  · exact .refl _

theorem sameStations_continueTrain (x : SlotPulse) : SameStations s (s.continueTrain x) := by
  unfold continueTrain handOver
  dsimp only
  split
  · split
    · exact .frame rfl rfl
    · exact sameStations_skipLoads _
  · split
    · exact .frame rfl rfl
    · exact .refl s

theorem sameStations_recallScene (n : SceneIx) (es : List SceneEntry) (fade : Nat) (caller : Caller) :
    SameStations s (s.recallScene n es fade caller) := by
  refine sameStations_mapLoads fun i => ?_
  split
  · exact .refl _
  · split
    · exact Record.noNewHold_claim _ _ _ (by simp)
    · exact .refl _

/-- A boundary lets the ramps it finds take their step (R55). -/
theorem sameStations_announce (b : Boundary) : SameStations s (s.announce b) := by
  refine (sameStations_applyMembers (s.waitsOn b.line)).trans ⟨by simp, fun n => ?_⟩
  obtain ⟨skips, hload⟩ := s.load_announce b n
  rw [hload, load_applyMembers]
  exact Record.noNewHold_atBoundary b

theorem sameStations_loseLine (l : Line) : SameStations s (s.loseLine l) := by
  refine ⟨loseLine_link s l, fun n => ?_⟩
  rw [load_loseLine]
  split
  · exact Record.noNewHold_of_ramp (Record.applyStaged_ramp _)
  · exact .refl _

theorem sameStations_moveTracker (l : Line) (m : Move) : SameStations s (s.moveTracker l m) := by
  have hset : SameStations s { s with trackers := s.trackers.set l m.tracker } := .frame rfl rfl
  have hevent (w : State) (e : Option LineEvent) : SameStations w (w.lineEvent l e) := by
    unfold lineEvent
    split
    · exact .refl w
    · exact .frame rfl rfl
    · exact .frame rfl rfl
    · exact sameStations_loseLine l
  unfold moveTracker
  dsimp only
  split
  · exact hset.trans (hevent _ _)
  · exact (hset.trans (hevent _ _)).trans (sameStations_announce _)

theorem sameStations_disabled (n : LoadIx) : SameStations s (s.disabled n) :=
  sameStations_modifyLoad (f := fun r => { r.leaveActive .defined with missCount := 0 })
    (Record.noNewHold_of_none rfl) |>.trans (.frame rfl rfl)

/-! ## What changes the link, its slots or the ramps of holds -/

/-- With every load VACANT no ramp is left. -/
theorem not_rampsFor_of_vacant (hl : u.loads = .fill 24 .vacant) (n : LoadIx) (i : SlotIx) :
    ¬ (u.load n).RampsFor i :=
  Record.not_rampsFor_of_none (by rw [load_def, hl, Table.get_fill]; rfl) i

/-- A reset leaves the link off and its table empty (R162). -/
theorem stationsOk_of_reset (hk : u.link = .reset) (hl : u.loads = .fill 24 .vacant) : u.StationsOk := by
  have hslot (i : SlotIx) : u.link.slots.get i = .vacated := by
    rw [hk]
    exact Table.get_fill _ _
  refine ⟨⟨?_, fun i => ?_, ?_, ?_, fun n i hi => absurd hi (not_rampsFor_of_vacant hl n i)⟩, ?_⟩
  · simp [hk, StationLink.SettingsOk, StationLink.reset]
  · rw [slot, hslot]
    rfl
  · intro i j _ e he
    simp [hslot, StationSlot.vacated] at he
  · exact StationLink.pollOk_of_none (by rw [hk]; rfl)
  · simp [hk, StationLink.ChoiceOk, StationLink.reset]

/-- The settings, the poll and the round may change while the table is kept. -/
theorem TableOk.relink (h : s.TableOk) {k : StationLink} (hs : k.slots = s.link.slots)
    (hset : k.SettingsOk) (hpoll : k.PollOk) : TableOk { s with link := k } where
  settings := hset
  slots i := by
    have hi := h.slots i
    rwa [slot, ← hs] at hi
  addresses := h.addresses.congr fun i => by rw [hs]
  poll := hpoll
  holds n i hi := by
    have hold := h.holds n i hi
    rwa [slot, ← hs] at hold

theorem TableOk.endPoll (h : s.TableOk) (now : Nat) : TableOk { s with link := s.link.endPoll now } :=
  h.relink (StationLink.endPoll_slots _ _) (h.settings.endPoll now)
    (StationLink.pollOk_of_none (StationLink.endPoll_poll _ _))

/-- Once the next slot is chosen the whole table is sound, whatever was chosen before. -/
theorem TableOk.chooseNext (h : s.TableOk) : s.chooseNext.StationsOk := by
  refine ⟨h.relink (StationLink.chooseNext_slots _) ?_ ?_, StationLink.choiceOk_chooseNext _⟩
  · have hset := h.settings
    simpa only [StationLink.SettingsOk, StationLink.chooseNext_holdStep,
      StationLink.chooseNext_holdExpiry, StationLink.chooseNext_offFade] using hset
  · exact h.poll.congr (StationLink.chooseNext_poll _) fun i => by rw [StationLink.chooseNext_slots]

/-- A slot that keeps its enrolment may change, within its own rules and those of its hold. -/
theorem TableOk.modifySlot (h : s.TableOk) {i : SlotIx} {f : StationSlot → StationSlot}
    (hok : (f (s.slot i)).Ok) (hstation : (f (s.slot i)).station = (s.slot i).station)
    (hhold : (s.slot i).hold.isSome = true → (f (s.slot i)).hold.isSome = true) :
    (s.modifySlot i f).TableOk := by
  have hkeep (j : SlotIx) : ((s.modifySlot i f).slot j).station = (s.slot j).station := by
    by_cases hj : j = i
    · subst hj
      rw [slot_modifySlot_self, hstation]
    · rw [slot_modifySlot_ne s hj]
  refine ⟨h.settings, fun j => ?_, h.addresses.congr hkeep, h.poll.congr rfl hkeep, fun n j hj => ?_⟩
  · by_cases hj : j = i
    · subst hj
      rwa [slot_modifySlot_self]
    · rw [slot_modifySlot_ne s hj]
      exact h.slots j
  · have hold := h.holds n j hj
    by_cases hji : j = i
    · subst hji
      rw [slot_modifySlot_self]
      exact hhold hold
    · rwa [slot_modifySlot_ne s hji]

/-- A change of records may begin ramps for the holds that slots hold. -/
theorem TableOk.mapLoads (h : s.TableOk) {f : LoadIx → Record → Record}
    (hf : ∀ n i, (f n (s.load n)).RampsFor i →
      (s.load n).RampsFor i ∨ (s.slot i).hold.isSome = true) : (s.mapLoads f).TableOk := by
  refine ⟨h.settings, h.slots, h.addresses, h.poll, fun n i hi => ?_⟩
  rw [load_mapLoads] at hi
  exact (hf n i hi).elim (h.holds n i) id

/-- After the stop of holds no ramp for them is left, and no other ramp has begun (R64). -/
theorem rampsFor_stopHolds {p : SlotIx → Bool} {n : LoadIx} {i : SlotIx}
    (h : ((s.stopHolds p).load n).RampsFor i) : (s.load n).RampsFor i ∧ p i = false := by
  rw [load_stopHolds] at h
  split at h
  · rename_i k j hramp
    split at h
    · exact absurd h (Record.not_rampsFor_of_none rfl i)
    · rename_i hp
      refine ⟨h, ?_⟩
      obtain ⟨x, hx, hi⟩ := h
      obtain rfl := Option.some.inj (hramp.symm.trans hx)
      obtain rfl := Origin.hold.inj hi
      simpa using hp
  · rename_i hother
    obtain ⟨⟨k, origin⟩, hx, rfl⟩ := h
    exact absurd hx (hother k i)

theorem station_stopHolds (p : SlotIx → Bool) (i : SlotIx) :
    ((s.stopHolds p).slot i).station = (s.slot i).station := by
  rw [slot_stopHolds]
  split <;> rfl

theorem slotState_stopHolds (p : SlotIx → Bool) (i : SlotIx) :
    ((s.stopHolds p).slot i).state = (s.slot i).state := by
  rw [slot_stopHolds]
  split <;> rfl

theorem TableOk.stopHolds (h : s.TableOk) (p : SlotIx → Bool) : (s.stopHolds p).TableOk := by
  refine ⟨h.settings, fun i => ?_, h.addresses.congr (station_stopHolds p),
    h.poll.congr rfl (station_stopHolds p), fun n i hi => ?_⟩
  · rw [slot_stopHolds]
    split
    · exact (h.slots i).stopHold
    · exact h.slots i
  · obtain ⟨hramp, hp⟩ := rampsFor_stopHolds hi
    rw [slot_stopHolds, if_neg (by simp [hp])]
    exact h.holds n i hramp

theorem StationsOk.stopHolds (h : s.StationsOk) (p : SlotIx → Bool) : (s.stopHolds p).StationsOk :=
  ⟨h.table.stopHolds p, h.choice.congr rfl rfl id (slotState_stopHolds p)⟩

theorem TableOk.stopHoldOf (h : s.TableOk) (i : SlotIx) : (s.stopHoldOf i).TableOk := by
  unfold State.stopHoldOf
  split
  · exact h.stopHolds _
  · exact h

theorem StationsOk.stopHoldOf (h : s.StationsOk) (i : SlotIx) : (s.stopHoldOf i).StationsOk := by
  unfold State.stopHoldOf
  split
  · exact h.stopHolds _
  · exact h

/-- All off settles every ramp and stops every hold (R85). -/
theorem StationsOk.takeAllOff (h : s.StationsOk) : s.takeAllOff.StationsOk := by
  have hoff : SameStations s { s with
      loads := s.loads.mapIx fun _ r => if r.isActive then r.leaveActive .defined else r
      firing := .reset s.firing.inhibit
      monitor := { s.monitor with checks := [] } } := by
    refine (sameStations_mapLoads (f := fun _ r => if r.isActive then r.leaveActive .defined else r)
      fun n => ?_).trans (.frame rfl rfl)
    split
    · exact Record.noNewHold_of_none rfl
    · exact .refl _
  exact (hoff.stationsOk h).stopHolds _

/-- RESTART takes the slots in use OFFLINE and discards the poll in flight (R162). -/
theorem StationsOk.softReset (h : s.StationsOk) : s.softReset.StationsOk := by
  have hslot (i : SlotIx) : s.softReset.slot i = (s.slot i).softReset := by
    simp [slot]
  have hstation (i : SlotIx) : (s.softReset.slot i).station = (s.slot i).station := by
    rw [hslot, StationSlot.softReset_station]
  have hchooses := s.link.chooses_softReset
  have hpoll : s.link.softReset.poll = s.link.poll.map fun q => { q with discard := some .stopped } := by
    simp [StationLink.softReset, StationLink.discardPoll_stopped]
  refine ⟨⟨?_, fun i => ?_, h.table.addresses.congr hstation,
    StationLink.pollOk_of_discard fun q hq => ?_, fun n i hi => ?_⟩, StationLink.choiceOk_of_chooses hchooses⟩
  · have hset := h.table.settings
    simpa [StationLink.SettingsOk, StationLink.softReset, StationLink.discardPoll_stopped] using hset
  · rw [hslot]
    exact (h.table.slots i).softReset
  · rw [softReset_link, hpoll] at hq
    obtain ⟨q', -, rfl⟩ := Option.map_eq_some_iff.1 hq
    rfl
  · exact absurd hi (not_rampsFor_of_vacant rfl n i)

end State

end Sys2Proof.Machine
end

section
/-!
SUPPORT. What each command keeps of the station table: polls and Replies, the station commands, and the step.
-/

namespace Sys2Proof.Machine

namespace State

variable {s u v : State}

/-! ## Polls that fail -/

/-- A failed poll of a slot in use counts, or at the fifth takes the slot OFFLINE without its hold (R148). -/
theorem TableOk.failPoll (h : s.TableOk) (i : SlotIx) : (s.failPoll i).TableOk := by
  unfold State.failPoll
  dsimp only
  split
  · exact h
  · exact h
  · rename_i hon
    have huse : (s.slot i).state ≠ .empty := by simp [hon]
    split
    · rename_i hf
      exact h.modifySlot ((h.slots i).online huse rfl hon hf) rfl id
    · have hstop := (h.stopHoldOf i).modifySlot (i := i)
        (f := fun x => { x with state := .offline, failCount := 0 })
        (by
          rw [slot_stopHoldOf_self]
          exact (h.slots i).offline huse rfl rfl rfl rfl) rfl id
      exact hstop.congr rfl rfl

/-! ## Replies and requests -/

/-- A sound table whose slot `i` is ONLINE: what a request of its station finds. -/
structure Serving (s : State) (i : SlotIx) : Prop where
  table : s.TableOk
  online : (s.slot i).state = .online

/-- A valid Reply brings its slot, which is in use, ONLINE (R147). -/
theorem TableOk.answer (h : s.TableOk) {i : SlotIx} (huse : (s.slot i).state ≠ .empty) :
    (s.answer i).Serving i := by
  refine ⟨?_, by rw [slot_answer_self s i huse]⟩
  have hon : (s.modifySlot i fun x => { x with state := .online, failCount := 0 }).TableOk :=
    h.modifySlot ((h.slots i).online huse rfl rfl (Nat.zero_lt_succ _)) rfl id
  unfold State.answer
  split
  · exact hon.congr rfl rfl
  · rename_i hoff
    exact h.modifySlot ((h.slots i).online huse rfl (SlotState.eq_online huse hoff) (Nat.zero_lt_succ _))
      rfl id

/-- An ONLINE slot may take another result, sequence bit or hold. -/
theorem Serving.modifySlot {i : SlotIx} (h : s.Serving i) {f : StationSlot → StationSlot}
    (hstation : (f (s.slot i)).station = (s.slot i).station)
    (hs : (f (s.slot i)).state = (s.slot i).state)
    (hf : (f (s.slot i)).failCount = (s.slot i).failCount)
    (hhold : (s.slot i).hold.isSome = true → (f (s.slot i)).hold.isSome = true) :
    (s.modifySlot i f).Serving i := by
  have hslot := h.table.slots i
  refine ⟨h.table.modifySlot (hslot.online (by simp [h.online]) hstation (hs.trans h.online)
    (hf ▸ hslot.failCount_lt)) hstation hhold, ?_⟩
  rw [slot_modifySlot_self, hs, h.online]

theorem SameStations.serving {i : SlotIx} (h : SameStations s u) (hs : s.Serving i) : u.Serving i :=
  ⟨h.tableOk hs.table, slot_congr h.link i ▸ hs.online⟩

theorem Serving.stopHoldOf {i : SlotIx} (h : s.Serving i) : (s.stopHoldOf i).Serving i :=
  ⟨h.table.stopHoldOf i, by rw [slot_stopHoldOf_self, h.online]⟩

theorem Serving.endHold {i : SlotIx} (h : s.Serving i) (z : Zone) : (s.endHold i z).Serving i := by
  unfold State.endHold
  split
  · exact h.stopHoldOf
  · exact h

/-- A new hold is in its slot before loads ramp for it (R153). -/
theorem Serving.startHold {i : SlotIx} (h : s.Serving i) (z : Zone) (d : Direction) :
    (s.startHold i z d).TableOk := by
  unfold State.startHold
  dsimp only
  split
  · exact (h.modifySlot (f := fun x => { x with hold := some _ }) rfl rfl rfl fun _ => rfl).table
  · have hset := (h.stopHoldOf.modifySlot (f := fun x => { x with hold := some ⟨z, d, s.holdExpiryTime⟩ })
      rfl rfl rfl fun _ => rfl).table
    refine hset.mapLoads fun n j hj => ?_
    split at hj
    · rcases Record.rampsFor_claimHold hj with hj | rfl
      · exact .inl hj
      · exact .inr (by rw [slot_modifySlot_self]; rfl)
    · exact .inl hj

theorem Serving.zoneOff {i : SlotIx} (h : s.Serving i) (z : Zone) : (s.zoneOff i z).Serving i := by
  refine (sameStations_mapLoads fun n => ?_).serving h
  split
  · exact Record.noNewHold_claim _ _ _ (by simp)
  · exact .refl _

theorem Serving.stationRecall {i : SlotIx} (h : s.Serving i) (n : SceneIx) :
    (s.stationRecall i n).Serving i := by
  unfold State.stationRecall
  split
  · exact h
  · exact (sameStations_recallScene ..).serving h

/-- A request with its sequence bit judged (R149, R150). -/
theorem Serving.judge {i : SlotIx} (h : s.Serving i) (seq : Bool) (refusal : Option Reason)
    {carryOut : State → State} (hc : ∀ v : State, v.Serving i → (carryOut v).TableOk) :
    (s.judge i seq refusal carryOut).TableOk := by
  have hjudged (result : LastResult) :
      (s.modifySlot i fun x => { x with lastSeq := some seq, lastResult := result }).Serving i :=
    h.modifySlot rfl rfl rfl id
  unfold State.judge
  split
  · exact h.table
  · split
    · rename_i why
      exact (hjudged (.refused why)).table.congr rfl rfl
    · exact hc _ (hjudged _)

/-- A Reply row whose requests keep the table, found with the slot of their station ONLINE. -/
def HandlesTable (handle : Request → Option (SlotIx → State → State)) : Prop :=
  ∀ r f, handle r = some f → ∀ i v, Serving v i → (f i v).TableOk

theorem handlesTable_idle : HandlesTable Request.takeIdle
  | .idle, _, rfl, _, _, h => (h.modifySlot rfl rfl rfl id).table

theorem handlesTable_recall : HandlesTable Request.takeRecall
  | .recall n seq, _, rfl, _, _, h => h.judge seq _ fun _ hv => (hv.stationRecall n).table

theorem handlesTable_raise : HandlesTable Request.takeRaise
  | .raiseStart z seq, _, rfl, _, _, h => h.judge seq _ fun _ hv => hv.startHold z .raise

theorem handlesTable_lower : HandlesTable Request.takeLower
  | .lowerStart z seq, _, rfl, _, _, h => h.judge seq _ fun _ hv => hv.startHold z .lower

theorem handlesTable_holdStop : HandlesTable Request.takeHoldStop
  | .holdStop z seq, _, rfl, _, _, h => h.judge seq _ fun _ hv => (hv.endHold z).table

theorem handlesTable_off : HandlesTable Request.takeOff
  | .off z seq, _, rfl, _, _, h => h.judge seq _ fun _ hv => (hv.zoneOff z).table

/-- An undiscarded poll in flight is of a slot in use (R140). -/
theorem TableOk.polled_inUse (h : s.TableOk) {q : Poll} (hq : s.link.poll = some q)
    (hd : ¬ q.discard.isSome = true) : (s.slot q.slot).state ≠ .empty := by
  obtain ⟨e, he, -⟩ := Option.map_eq_some_iff.1 (h.poll q hq (by simpa using hd))
  exact (h.slots q.slot).inUse_iff.2 ⟨e, he⟩

/-- The poll whose window is open is the poll in flight. -/
theorem poll_of_listening {q : Poll} (h : s.listening = some q) : s.link.poll = some q := by
  unfold listening at h
  split at h
  · simp at h
  · rename_i q' hq
    obtain ⟨-, hqq⟩ := Option.ite_none_right_eq_some.1 h
    exact hq.trans hqq

theorem StationsOk.takeReply (h : s.StationsOk) (frame : List Byte)
    {handle : Request → Option (SlotIx → State → State)} (hh : HandlesTable handle) :
    (s.takeReply frame handle).StationsOk := by
  unfold State.takeReply
  split
  · exact h
  · rename_i q hq
    split
    · exact h
    · rename_i f hf
      obtain ⟨r, -, hr⟩ := Option.bind_eq_some_iff.1 hf
      have hend := h.table.endPoll s.now
      refine TableOk.chooseNext ?_
      split
      · exact hend
      · rename_i hd
        have huse := h.table.polled_inUse (poll_of_listening hq) hd
        refine hh r f hr q.slot _ (hend.answer ?_)
        rwa [slot, StationLink.endPoll_slots]

/-! ## The bodies of the commands -/

/-- What a command body carries out keeps the station table; a refusal always does (R167). -/
def BodyKeepsStations (s : State) (r : CommandResult) : Prop :=
  ∀ v payload, r = .ok (v, payload) → s.StationsOk → v.StationsOk

theorem BodyKeepsStations.bind {α : Type} {x : Except Status α} {f : α → CommandResult}
    (h : ∀ a, x = .ok a → s.BodyKeepsStations (f a)) : s.BodyKeepsStations (x >>= f) :=
  fun v payload hr => by
    obtain ⟨a, hx, ha⟩ := bind_eq_ok.1 hr
    exact h a hx v payload ha

theorem BodyKeepsStations.ok {r : State × List Byte} (h : s.StationsOk → r.1.StationsOk) :
    s.BodyKeepsStations (.ok r) := by
  rintro w q ⟨⟩
  exact h

theorem BodyKeepsStations.same {r : State × List Byte} (h : SameStations s r.1) :
    s.BodyKeepsStations (.ok r) := .ok h.stationsOk

/-- A body whose result differs from `s` in other blocks alone. -/
theorem BodyKeepsStations.frame {r : State × List Byte} (hk : r.1.link = s.link)
    (hl : r.1.loads = s.loads) : s.BodyKeepsStations (.ok r) := .same (.frame hk hl)

theorem BodyKeepsStations.error (status : Status) : s.BodyKeepsStations (.error status) :=
  fun _ _ h => nomatch h

/-- A body that changes one record and begins no ramp. -/
theorem BodyKeepsStations.record {n : LoadIx} {f : Record → Record} {payload : List Byte}
    (h : (s.load n).NoNewHold (f (s.load n))) :
    s.BodyKeepsStations (.ok (s.modifyLoad n f, payload)) := .same (sameStations_modifyLoad h)

theorem keepsStations_configureLines (p : List Byte) : s.BodyKeepsStations (configureLines p s) :=
  .bind fun c _ => .same <| by
    have hset : SameStations s { s with lineConfig := c } := .frame rfl rfl
    exact ((hset.trans (sameStations_moveTracker .a _)).trans (sameStations_moveTracker .b _)).trans
      (sameStations_moveTracker .c _)

theorem keepsStations_disableLoad (p : List Byte) : s.BodyKeepsStations (disableLoad p s) :=
  .bind fun n _ => .bind fun _ _ => .same <| by
    dsimp only
    split
    · exact (sameStations_disabled n).trans (sameStations_applyMembers _)
    · exact sameStations_disabled n

theorem keepsStations_releaseLoad (p : List Byte) : s.BodyKeepsStations (releaseLoad p s) :=
  .bind fun n _ => .bind fun _ _ => .bind fun _ _ => .same <|
    SameStations.trans (sameStations_modifyLoad (n := n) (f := fun _ => .vacant)
      (Record.noNewHold_of_none rfl)) (.frame rfl rfl)

theorem keepsStations_commit (p : List Byte) : s.BodyKeepsStations (Machine.commit p s) :=
  .bind fun _ _ => .same <| by
    have hset : SameStations s s.committing := .frame rfl rfl
    exact hset.trans (sameStations_applyMembers _)

/-! ### The station commands -/

/-- The settings that pass the argument check are in range (R142). -/
theorem linkSettingsAt_ok {p : List Byte} {c : LinkSettings} (h : linkSettingsAt p = some c) :
    1 ≤ c.holdStep ∧ c.holdStep ≤ 50 ∧ 200 ≤ c.holdExpiry ∧ c.holdExpiry ≤ 5000 ∧ c.offFade ≤ 6000 := by
  simp only [linkSettingsAt, Option.bind_eq_bind, Option.bind_eq_some_iff,
    Option.ite_none_right_eq_some, Option.some.injEq] at h
  obtain ⟨_, -, hrange, rfl⟩ := h
  exact hrange

/-- The part with the four settings stored, before a change of link_enable acts (R142). -/
def stored (s : State) (c : LinkSettings) : State :=
  { s with link := { s.link with
    enable := c.enable, holdStep := c.holdStep, holdExpiry := c.holdExpiry, offFade := c.offFade } }

theorem TableOk.stored (h : s.TableOk) {p : List Byte} {c : LinkSettings}
    (hc : linkSettingsAt p = some c) : (s.stored c).TableOk :=
  h.relink rfl (linkSettingsAt_ok hc) (h.poll.congr rfl fun _ => rfl)

/-- A link that is switched makes its choice anew, or loses it; one that is not keeps it (R143). -/
theorem TableOk.switchLink {before after : Bool} (h : s.TableOk)
    (hchoice : before = after → s.link.ChoiceOk) : (s.switchLink before after).StationsOk := by
  unfold State.switchLink
  dsimp only
  split
  · have hstop := h.stopHolds fun i => (s.slot i).hold.isSome
    refine TableOk.chooseNext (s := { s.stopHolds _ with link := (s.stopHolds _).link.discardPoll .stopped })
      (hstop.relink ?_ ?_ (StationLink.pollOk_of_discard fun q hq => ?_))
    · rw [StationLink.discardPoll_stopped]
    · rw [StationLink.discardPoll_stopped]
      exact hstop.settings
    · rw [StationLink.discardPoll_stopped] at hq
      obtain ⟨q', -, rfl⟩ := Option.map_eq_some_iff.1 hq
      rfl
  · split
    · exact TableOk.chooseNext (s := { s with link := s.link.newRound })
        (h.relink rfl h.settings (h.poll.congr rfl fun _ => rfl))
    · exact ⟨h, hchoice (by cases before <;> cases after <;> simp_all)⟩

theorem keepsStations_configureLink (p : List Byte) : s.BodyKeepsStations (configureLink p s) :=
  .bind fun c hc => .ok fun h => by
    have hset := h.table.stored (argument_eq_ok.1 hc)
    exact hset.switchLink fun he => h.choice.congr he.symm rfl id fun _ => rfl

end State

end Sys2Proof.Machine
end

section
/-!
SUPPORT. ENROLL_STATION and REMOVE_STATION: what they make of the slots, the poll in flight and the choice.
-/

namespace Sys2Proof.Machine

/-! ## The table with a slot filled or emptied -/

/-- A slot that ENROLL_STATION has filled (R139). -/
def StationSlot.enrolled (address : Nat) (zones : ZoneSet) : StationSlot :=
  ⟨.offline, some ⟨address, zones⟩, none, .nothing, 0, none⟩

theorem StationSlot.ok_enrolled {address : Nat} (hmin : 1 ≤ address) (hmax : address ≤ 31)
    (zones : ZoneSet) : (enrolled address zones).Ok :=
  (ok_iff_of_station rfl).2 ⟨by simp [enrolled], hmin, hmax, by simp [enrolled],
    fun _ => ⟨rfl, rfl⟩⟩

namespace StationLink

variable {k : StationLink} {i j : SlotIx}

theorem inUse_iff : k.inUse i = true ↔ (k.slots.get i).state ≠ .empty := by simp [inUse]

theorem freeSlot_eq_some : k.freeSlot = some i ↔
    (k.slots.get i).state = .empty ∧ ∀ j, j < i → (k.slots.get j).state ≠ .empty := by
  unfold freeSlot
  rw [find_finRange_eq_some]
  simp [inUse]

theorem freeSlot_eq_none : k.freeSlot = none ↔ ∀ i, (k.slots.get i).state ≠ .empty := by
  unfold freeSlot
  rw [List.find?_eq_none]
  simp [inUse]

/-- A held address is that of a slot in use. -/
theorem addressTaken_iff (h : ∀ i, (k.slots.get i).Ok) {address : Nat} :
    k.addressTaken address = true ↔ ∃ i e, (k.slots.get i).station = some e ∧ e.address = address := by
  unfold addressTaken
  simp only [List.any_eq_true, List.mem_finRange, true_and, Bool.and_eq_true, inUse_iff,
    decide_eq_true_eq, Option.map_eq_some_iff]
  constructor
  · rintro ⟨i, -, e, he, ha⟩
    exact ⟨i, e, he, ha⟩
  · rintro ⟨i, e, he, ha⟩
    exact ⟨i, (h i).inUse_iff.2 ⟨e, he⟩, e, he, ha⟩

/-- The link with slot `i` as `x`. -/
def setSlot (k : StationLink) (i : SlotIx) (x : StationSlot) : StationLink :=
  { k with slots := k.slots.set i x }

/-- The link after an enrolment: into an all-EMPTY table it begins a new round with its choice (R139, R146,
log 24). -/
def enroll (k : StationLink) (i : SlotIx) (address : Nat) (zones : ZoneSet) : StationLink :=
  if ∀ j, (k.slots.get j).state = .empty then (k.setSlot i (.enrolled address zones)).newRound.chooseNext
  else k.setSlot i (.enrolled address zones)

/-- The poll in flight after the removal of slot `i`: marked for discard where it is of that slot (R140). -/
def discardOf (k : StationLink) (i : SlotIx) : Option Poll :=
  k.poll.map fun q => if q.slot = i then { q with discard := some (q.discard.getD .removed) } else q

/-- The link without slot `i`, before the choice that may have been of it is made anew (R140). -/
def vacate (k : StationLink) (i : SlotIx) : StationLink :=
  { k.setSlot i .vacated with poll := k.discardOf i }

@[simp] theorem enroll_slots (k : StationLink) (i : SlotIx) (address : Nat) (zones : ZoneSet) :
    (k.enroll i address zones).slots = k.slots.set i (.enrolled address zones) := by
  unfold enroll
  split
  · rw [chooseNext_slots]
    rfl
  · rfl

@[simp] theorem vacate_slots (k : StationLink) (i : SlotIx) :
    (k.vacate i).slots = k.slots.set i .vacated := rfl

@[simp] theorem chooseWithout_slots (k : StationLink) (i : SlotIx) :
    (k.chooseWithout i).slots = k.slots := by
  unfold chooseWithout
  split
  · exact chooseNext_slots k
  · rfl

@[simp] theorem chooseWithout_poll (k : StationLink) (i : SlotIx) : (k.chooseWithout i).poll = k.poll := by
  unfold chooseWithout
  split
  · exact chooseNext_poll k
  · rfl

theorem discardOf_of_slot {q : Poll} (hq : k.poll = some q) (hi : q.slot = i) :
    k.discardOf i = some { q with discard := some (q.discard.getD .removed) } := by
  simp [discardOf, hq, hi]

theorem discardOf_of_other (h : ∀ q, k.poll = some q → q.slot ≠ i) : k.discardOf i = k.poll := by
  unfold discardOf
  cases hq : k.poll with
  | none => rfl
  | some q => simp [h q hq]

/-- What the model's mark for a removed slot makes of the poll in flight. -/
theorem discardRemoved_eq (k : StationLink) (i : SlotIx) :
    (if k.poll.map (·.slot) = some i then k.discardPoll .removed else k) =
      { k with poll := k.discardOf i } := by
  split
  · rename_i h
    obtain ⟨q, hq, hi⟩ := Option.map_eq_some_iff.1 h
    rw [discardPoll_removed, discardOf_of_slot hq hi, hq]
    rfl
  · rename_i h
    rw [discardOf_of_other fun q hq hi => h (by rw [hq, Option.map_some, hi])]

/-- A poll that a removal leaves unmarked is of another slot. -/
theorem mem_discardOf {q : Poll} (h : q ∈ k.discardOf i) (hd : q.discard = none) :
    q ∈ k.poll ∧ q.slot ≠ i := by
  obtain ⟨q', hq, rfl⟩ := Option.map_eq_some_iff.1 h
  split at hd
  · simp at hd
  · rename_i hi
    rw [if_neg hi]
    exact ⟨hq, hi⟩

/-- The choice stands unless it was of the slot now emptied, and is then made anew (log 14). -/
theorem chooses_chooseWithout (k : StationLink) (i : SlotIx) :
    if k.chosen = some (.online i) ∨ k.chosen = some (.rediscovery i) then k.Chooses (k.chooseWithout i)
    else k.chooseWithout i = k := by
  have hslot : k.chosen.map (·.slot) = some i ↔
      k.chosen = some (.online i) ∨ k.chosen = some (.rediscovery i) := by
    rw [Option.map_eq_some_iff]
    constructor
    · rintro ⟨c, hc, rfl⟩
      cases c with
      | online j => exact .inl hc
      | rediscovery j => exact .inr hc
    · rintro (hc | hc)
      · exact ⟨_, hc, rfl⟩
      · exact ⟨_, hc, rfl⟩
  unfold chooseWithout
  split
  · rename_i h
    rw [if_pos (hslot.2 h)]
    exact k.chooses_chooseNext
  · rename_i h
    rw [if_neg (mt hslot.1 h)]

end StationLink

/-! ## The bodies of the two commands -/

section bodies

variable {p : List Byte} {s : State} {i : SlotIx}

theorem enrollStation_taken (hr : 1 ≤ byteAt p 0 ∧ byteAt p 0 ≤ 31)
    (ht : s.link.addressTaken (byteAt p 0) = true) : enrollStation p s = .error .state := by
  simp [enrollStation, hr, ht]

theorem enrollStation_full (hr : 1 ≤ byteAt p 0 ∧ byteAt p 0 ≤ 31)
    (ht : s.link.addressTaken (byteAt p 0) = false) (hi : s.link.freeSlot = none) :
    enrollStation p s = .error .noSpace := by
  simp [enrollStation, hr, ht, hi]

theorem enrollStation_ok (hr : 1 ≤ byteAt p 0 ∧ byteAt p 0 ≤ 31)
    (ht : s.link.addressTaken (byteAt p 0) = false) (hi : s.link.freeSlot = some i) :
    enrollStation p s =
      .ok ({ s with link := s.link.enroll i (byteAt p 0) (p.getD 1 0) }, [byte i.val]) := by
  have hempty : ((List.finRange 8).all fun j => !s.link.inUse j) = true ↔
      ∀ j, (s.link.slots.get j).state = .empty := by simp [StationLink.inUse]
  simp only [enrollStation, hr, ht, hi, and_self, decide_true, require_true, ok_bind, Bool.not_false,
    hempty]
  rfl

theorem removeStation_empty (hn : indexAt 8 p 0 = some i) (hs : (s.slot i).state = .empty) :
    removeStation p s = .error .state := by
  have huse : s.link.inUse i = false := by simpa [StationLink.inUse, State.slot] using hs
  simp [removeStation, hn, huse]

/-- A slot in use is emptied, whatever its hold was: the stop of the hold reaches its ramps (R140, R157). -/
theorem removeStation_ok (hn : indexAt 8 p 0 = some i) (hs : (s.slot i).state ≠ .empty) :
    removeStation p s = .ok ({ s with
      loads := (s.stopHoldOf i).loads, link := (s.link.vacate i).chooseWithout i }, []) := by
  have huse : s.link.inUse i = true := StationLink.inUse_iff.2 hs
  have hslots : (s.stopHoldOf i).link.slots.modify i (fun _ => .vacated) =
      s.link.slots.set i .vacated := by
    refine Table.ext_get fun j => ?_
    by_cases hj : j = i
    · subst hj
      simp
    · rw [Table.get_modify_ne _ hj, Table.get_set_ne _ hj]
      exact s.slot_stopHoldOf_ne hj
  have hframe : (s.stopHoldOf i).modifySlot i (fun _ => .vacated) = { s with
      loads := (s.stopHoldOf i).loads, link := s.link.setSlot i .vacated } := by
    unfold State.modifySlot
    rw [hslots]
    conv_lhs => rw [s.stopHoldOf_frame i]
    rfl
  simp only [removeStation, hn, argument_some, ok_bind, huse, require_true, hframe,
    StationLink.discardRemoved_eq]
  rfl

end bodies

/-! ## What they keep -/

namespace State

variable {s u : State} {i : SlotIx}

/-- One slot is replaced: the new one is sound, its address new, and no ramp is left without its hold. -/
theorem TableOk.replaceSlot (h : s.TableOk) {x : StationSlot} (hk : u.link.SettingsOk)
    (hslots : u.link.slots = s.link.slots.set i x) (hok : x.Ok)
    (haddr : ∀ e ∈ x.station, ∀ j, ∀ f ∈ (s.slot j).station, e.address ≠ f.address)
    (hpoll : u.link.PollOk) (hramps : ∀ n j, (u.load n).RampsFor j → (s.load n).RampsFor j ∧ j ≠ i) :
    u.TableOk := by
  have hself : u.slot i = x := by rw [slot, hslots, Table.get_set_self]
  have hother (j : SlotIx) (hj : j ≠ i) : u.slot j = s.slot j := by
    rw [slot, hslots, Table.get_set_ne _ hj]
    rfl
  refine ⟨hk, fun j => ?_, fun j l hjl => ?_, hpoll, fun n j hj => ?_⟩
  · by_cases hj : j = i
    · rwa [hj, hself]
    · rw [hother j hj]
      exact h.slots j
  · change ∀ e ∈ (u.slot j).station, ∀ f ∈ (u.slot l).station, e.address ≠ f.address
    by_cases hj : j = i
    · subst hj
      rw [hself, hother l hjl.symm]
      exact fun e he => haddr e he l
    · by_cases hl : l = i
      · subst hl
        rw [hself, hother j hj]
        exact fun e he f hf => (haddr f hf j e he).symm
      · rw [hother j hj, hother l hl]
        exact h.addresses j l hjl
  · obtain ⟨hramp, hji⟩ := hramps n j hj
    rw [hother j hji]
    exact h.holds n j hramp

/-- An undiscarded poll in flight is not of a slot without an address. -/
theorem TableOk.poll_slot_ne (h : s.TableOk) {q : Poll} (hq : q ∈ s.link.poll) (hd : q.discard = none)
    (hi : (s.slot i).station = none) : q.slot ≠ i := by
  rintro rfl
  have hs := h.poll q hq hd
  rw [show (s.link.slots.get q.slot).station = none from hi] at hs
  simp at hs

theorem StationsOk.enroll (h : s.StationsOk) {address : Nat} {zones : ZoneSet} (hmin : 1 ≤ address)
    (hmax : address ≤ 31) (ht : s.link.addressTaken address = false)
    (hempty : (s.slot i).state = .empty) :
    StationsOk { s with link := s.link.enroll i address zones } := by
  have hstation := (h.table.slots i).station_of_empty hempty
  have hset : TableOk { s with link := s.link.setSlot i (.enrolled address zones) } := by
    refine h.table.replaceSlot h.table.settings rfl (StationSlot.ok_enrolled hmin hmax zones) ?_ ?_ ?_
    · rintro e he j f hf heq
      obtain rfl := Option.some.inj he
      exact Bool.eq_false_iff.1 ht
        ((StationLink.addressTaken_iff h.table.slots).2 ⟨j, f, hf, heq.symm⟩)
    · intro q hq hd
      have hne := h.table.poll_slot_ne hq hd hstation
      rw [StationLink.setSlot, Table.get_set_ne _ hne]
      exact h.table.poll q hq hd
    · intro n j hj
      refine ⟨hj, ?_⟩
      rintro rfl
      have hhold := h.table.holds n j hj
      rw [(h.table.slots j).hold_of_empty hempty] at hhold
      simp at hhold
  unfold StationLink.enroll
  split
  · exact TableOk.chooseNext (s := { s with link := (s.link.setSlot i _).newRound })
      (hset.relink rfl hset.settings (hset.poll.congr rfl fun _ => rfl))
  · rename_i huse
    obtain ⟨hchosen, hsome⟩ := h.choice
    refine ⟨hset, fun c hc => ?_, fun hon hpoll _ => hsome hon hpoll (by simpa using huse)⟩
    obtain ⟨hon, hs⟩ := hchosen c hc
    have hne : c.slot ≠ i := by
      rintro rfl
      have hexpects : c.expects = .empty := hs.symm.trans hempty
      cases c <;> cases hexpects
    refine ⟨hon, ?_⟩
    rw [StationLink.setSlot, Table.get_set_ne _ hne]
    exact hs

/-- After the stop of the hold of slot `i` no ramp is left for it. -/
theorem TableOk.rampsFor_stopHoldOf (h : s.TableOk) {n : LoadIx} {j : SlotIx}
    (hj : ((s.stopHoldOf i).load n).RampsFor j) : (s.load n).RampsFor j ∧ j ≠ i := by
  unfold State.stopHoldOf at hj
  split at hj
  · obtain ⟨hramp, hne⟩ := rampsFor_stopHolds hj
    exact ⟨hramp, by simpa using hne⟩
  · rename_i hnone
    refine ⟨hj, ?_⟩
    rintro rfl
    exact hnone (h.holds n j hj)

theorem StationsOk.vacate (h : s.StationsOk) (i : SlotIx) : StationsOk { s with
    loads := (s.stopHoldOf i).loads, link := (s.link.vacate i).chooseWithout i } := by
  have hset : TableOk { s with loads := (s.stopHoldOf i).loads, link := s.link.vacate i } := by
    refine h.table.replaceSlot h.table.settings rfl rfl (by simp [StationSlot.vacated]) ?_
      fun n j hj => h.table.rampsFor_stopHoldOf hj
    intro q hq hd
    obtain ⟨hq', hne⟩ := StationLink.mem_discardOf hq hd
    rw [StationLink.vacate_slots, Table.get_set_ne _ hne]
    exact h.table.poll q hq' hd
  unfold StationLink.chooseWithout
  split
  · exact hset.chooseNext
  · rename_i hnot
    obtain ⟨hchosen, hsome⟩ := h.choice
    refine ⟨hset, fun c hc => ?_, fun hon hpoll ⟨j, hj⟩ => hsome hon ?_ ⟨j, ?_⟩⟩
    · have hchosen' : (s.link.vacate i).chosen = some c := hc
      have hne : c.slot ≠ i := fun hi => hnot (by simp [hchosen', hi])
      rw [StationLink.vacate_slots, Table.get_set_ne _ hne]
      exact hchosen c hc
    · exact Option.map_eq_none_iff.1 hpoll
    · by_cases hji : j = i
      · subst hji
        rw [StationLink.vacate_slots, Table.get_set_self] at hj
        exact absurd rfl hj
      · rwa [StationLink.vacate_slots, Table.get_set_ne _ hji] at hj

theorem keepsStations_enrollStation (p : List Byte) : s.BodyKeepsStations (enrollStation p s) := by
  intro v payload hv h
  obtain ⟨_, hr, hrest⟩ := bind_eq_ok.1 hv
  obtain ⟨_, ht, -⟩ := bind_eq_ok.1 hrest
  simp only [require_eq_ok, decide_eq_true_eq, Bool.not_eq_true'] at hr ht
  cases hi : s.link.freeSlot with
  | none => exact nomatch (enrollStation_full hr ht hi).symm.trans hv
  | some i =>
    have hok := enrollStation_ok hr ht hi
    obtain ⟨rfl, -⟩ := Prod.mk.inj (Except.ok.inj (hok.symm.trans hv))
    exact h.enroll hr.1 hr.2 ht (StationLink.freeSlot_eq_some.1 hi).1

theorem keepsStations_removeStation (p : List Byte) : s.BodyKeepsStations (removeStation p s) := by
  intro v payload hv h
  obtain ⟨i, hi, hrest⟩ := bind_eq_ok.1 hv
  rw [argument_eq_ok] at hi
  obtain ⟨_, huse, -⟩ := bind_eq_ok.1 hrest
  rw [require_eq_ok] at huse
  have hok := removeStation_ok hi (StationLink.inUse_iff.1 huse)
  obtain ⟨rfl, -⟩ := Prod.mk.inj (Except.ok.inj (hok.symm.trans hv))
  exact h.vacate i

end State

end Sys2Proof.Machine
end

section
/-!
SUPPORT. What every command keeps of the station table, and the step.
-/

namespace Sys2Proof.Machine

namespace State

variable {s u v : State}

/-! ## Commands taken and frames executed -/

theorem stationsOk_at (h : s.StationsOk) (t : Nat) : (s.at t).StationsOk :=
  h.congr rfl rfl

theorem stationsOk_takes (hs : s.StationsOk) {t : Nat} {f : State → State} (h : s.takes t f = .next u)
    (hf : ∀ v : State, v.StationsOk → (f v).StationsOk) : u.StationsOk := by
  rcases takes_cases h with rfl | rfl
  · exact stationsOk_at hs t
  · exact hf _ (stationsOk_at hs t)

/-- An event that leaves the stations alone. -/
theorem stationsOk_event (hs : s.StationsOk) {t : Nat} {f : State → State} (h : s.takes t f = .next u)
    (hf : ∀ v : State, SameStations v (f v)) : u.StationsOk :=
  stationsOk_takes hs h fun v => (hf v).stationsOk

/-- A command that executes a frame keeps the station table where its body does. -/
theorem stationsOk_runs (hs : s.StationsOk) {t : Nat} {c : Instr} {code : Byte}
    (body : List Byte → State → CommandResult) (hc : Runs t c code body) (h : exec c s = .next u)
    (hb : ∀ (p : List Byte) (v : State), v.BodyKeepsStations (body p v)) : u.StationsOk := by
  refine stationsOk_takes hs (hc s ▸ h) fun v hv => ?_
  rcases v.execute_cases code body with hx | ⟨status, hx⟩ | ⟨p, w, payload, hw, hx⟩ <;> rw [hx]
  · exact hv
  · exact hv.congr rfl rfl
  · exact (hb p v w payload hw hv).congr rfl rfl

/-- A Reply row that is taken. -/
theorem stationsOk_reply (hs : s.StationsOk) {t : Nat} {frame : List Byte}
    {handle : Request → Option (SlotIx → State → State)} (hh : HandlesTable handle)
    (h : s.takes t (fun v => v.takeReply frame handle) = .next u) : u.StationsOk :=
  stationsOk_takes hs h fun _ hv => hv.takeReply frame hh

/-! ## Events, one by one -/

theorem stationsOk_execPowerOnReset (h : execPowerOnReset s = .next u) : u.StationsOk := by
  obtain rfl := Host.Outcome.next.inj h
  split <;> exact stationsOk_of_reset rfl rfl

theorem stationsOk_execPinResetEnd (hs : s.StationsOk) {t : Nat} (h : execPinResetEnd t s = .next u) :
    u.StationsOk := by
  obtain rfl := Host.Outcome.next.inj h
  split <;> exact hs.congr rfl rfl

theorem stationsOk_execAlloffAssertion (hs : s.StationsOk) {t : Nat}
    (h : execAlloffAssertion t s = .next u) : u.StationsOk := by
  have hat : StationsOk { s.at t with allOff := true } := hs.congr rfl rfl
  simp only [execAlloffAssertion] at h
  split at h <;> obtain rfl := Host.Outcome.next.inj h
  · exact hat
  · exact hat.takeAllOff.congr rfl rfl

theorem stationsOk_execAlloffRelease (hs : s.StationsOk) {t : Nat}
    (h : execAlloffRelease t s = .next u) : u.StationsOk := by
  simp only [execAlloffRelease] at h
  split at h <;> obtain rfl := Host.Outcome.next.inj h <;> exact hs.congr rfl rfl

theorem stationsOk_execZeroCrossEdge (hs : s.StationsOk) {t : Nat} {l : Line} {level : Bool}
    (h : execZeroCrossEdge t l level s = .next u) : u.StationsOk := by
  have hzc : StationsOk { s with zc := s.zc.set l level } := hs.congr rfl rfl
  unfold execZeroCrossEdge at h
  exact stationsOk_event hzc h fun v => sameStations_moveTracker l _

theorem stationsOk_execPulseEnd (hs : s.StationsOk) {t : Nat} {n : LoadIx}
    (h : execPulseEnd t n s = .next u) : u.StationsOk := by
  refine stationsOk_event hs h fun v => ?_
  split
  · exact .refl v
  · refine SameStations.trans ?_ (sameStations_continueTrain _)
    exact .frame rfl rfl

theorem stationsOk_execLatestStartPassed (hs : s.StationsOk) {t : Nat} {n : LoadIx}
    (h : execLatestStartPassed t n s = .next u) : u.StationsOk := by
  refine stationsOk_event hs h fun v => ?_
  split
  · exact .refl v
  · refine SameStations.trans ?_ (sameStations_skipLoads _)
    exact .frame rfl rfl

theorem stationsOk_execHeldDriveStart (hs : s.StationsOk) {t : Nat} {n : LoadIx}
    (h : execHeldDriveStart t n s = .next u) : u.StationsOk := by
  refine stationsOk_event hs h fun v => ?_
  split
  · exact .refl v
  · exact .frame rfl rfl

theorem stationsOk_execHeldDriveEnd (hs : s.StationsOk) {t : Nat} {n : LoadIx} {level : Bool}
    (h : execHeldDriveEnd t n level s = .next u) : u.StationsOk := by
  refine stationsOk_event hs h fun v => ?_
  split
  · exact .refl v
  · have hsense : SameStations v (v.sampleSense n level) := .frame rfl rfl
    exact (hsense.trans (sameStations_judgeCheck n level)).trans (.frame rfl rfl)

theorem stationsOk_execPostFiringCheck (hs : s.StationsOk) {t : Nat} {n : LoadIx} {level : Bool}
    (h : execPostFiringCheck t n level s = .next u) : u.StationsOk := by
  refine stationsOk_event hs h fun v => ?_
  split
  · exact .refl v
  · refine SameStations.trans ?_ (sameStations_judgeCheck n level)
    exact .frame rfl rfl

theorem stationsOk_execQuietSample (hs : s.StationsOk) {t : Nat} {l : Line} {levels : LoadSet}
    (h : execQuietSample t l levels s = .next u) : u.StationsOk := by
  refine stationsOk_event hs h fun v => ?_
  split
  · exact .refl v
  · split
    · refine SameStations.trans ?_ (sameStations_sampleQuiet l _)
      exact .frame rfl rfl
    · exact .refl v

theorem stationsOk_execHoldExpiry (hs : s.StationsOk) {t : Nat} {i : SlotIx}
    (h : execHoldExpiry t i s = .next u) : u.StationsOk := by
  refine stationsOk_takes hs h fun v hv => ?_
  split
  · exact hv
  · split
    · exact (hv.stopHoldOf i).congr rfl rfl
    · exact hv

/-- The Poll frame goes to the address of its slot, and takes the choice (R145, R151). -/
theorem StationsOk.sendPoll (h : s.StationsOk) (c : Choice) {e : Enrolment}
    (he : (s.slot c.slot).station = some e) (now : Nat) :
    StationsOk { s with
      link := StationLink.sendPoll { s.link.polled c with chosen := none } c.slot e now } := by
  have hslots : (s.link.polled c).slots = s.link.slots := by cases c <;> rfl
  refine ⟨h.table.relink hslots ?_ (StationLink.pollOk_of_some rfl fun _ => ?_), ?_⟩
  · cases c <;> exact h.table.settings
  · change ((s.link.polled c).slots.get c.slot).station.map (·.address) = some e.address
    rw [hslots, show (s.link.slots.get c.slot).station = some e from he]
    rfl
  · simp [StationLink.ChoiceOk, StationLink.sendPoll]

theorem stationsOk_execPoll (hs : s.StationsOk) {t : Nat} (h : execPoll t s = .next u) : u.StationsOk := by
  refine stationsOk_takes hs h fun v hv => ?_
  split
  · split
    · exact hv
    · rename_i c _
      split
      · exact hv
      · rename_i e he
        exact hv.sendPoll c he v.now
  · exact hv

theorem stationsOk_execReplyWindowClose (hs : s.StationsOk) {t : Nat}
    (h : execReplyWindowClose t s = .next u) : u.StationsOk := by
  refine stationsOk_takes hs h fun v hv => ?_
  split
  · exact hv
  · split
    · have hend := hv.table.endPoll v.now
      refine TableOk.chooseNext ?_
      split
      · exact hend
      · exact hend.failPoll _
    · exact hv

/-- A Reply that is not valid ends a discarded poll, and makes the window of another deaf (R145, R147). -/
theorem stationsOk_execReplyNotValid (hs : s.StationsOk) {t : Nat} {frame : List Byte}
    (h : execReplyNotValid t frame s = .next u) : u.StationsOk := by
  refine stationsOk_takes hs h fun v hv => ?_
  split
  · exact hv
  · rename_i q hq
    split
    · split
      · exact (hv.table.endPoll v.now).chooseNext
      · exact ⟨hv.table.relink rfl hv.table.settings
          (StationLink.pollOk_of_some rfl (hv.table.poll q (poll_of_listening hq))),
          hv.choice.congr rfl rfl (fun hnone => nomatch hnone) fun _ => rfl⟩
    · exact hv

/-- Transactions reach the Command Unit alone. -/
theorem stationsOk_transaction (hs : s.StationsOk) {t : Nat} (taken : State → Bool)
    (f : State → CommandUnit)
    (h : (s.takes t fun s => if taken s then { s with port := f s } else s) = .next u) :
    u.StationsOk := by
  refine stationsOk_event hs h fun v => ?_
  split
  · exact .frame rfl rfl
  · exact .refl v

theorem stationsOk_execUnknownCommand (hs : s.StationsOk) {t : Nat}
    (h : execUnknownCommand t s = .next u) : u.StationsOk := by
  refine stationsOk_event hs h fun v => ?_
  split
  · exact .refl v
  · split
    · exact .frame rfl rfl
    · exact .refl v

theorem stationsOk_execFrameNotIntact (hs : s.StationsOk) {t : Nat}
    (h : execFrameNotIntact t s = .next u) : u.StationsOk := by
  refine stationsOk_event hs h fun v => ?_
  split
  · split
    · exact .frame rfl rfl
    · exact .refl v
  · exact .refl v
  · exact .refl v

/-! ## The step -/

/-- Every command keeps the station table. -/
theorem stationsOk_exec (hs : s.StationsOk) {c : Instr} (h : exec c s = .next u) : u.StationsOk := by
  cases c with
  | powerOnReset => exact stationsOk_execPowerOnReset h
  | pinReset t =>
    exact stationsOk_takes hs (show execPinReset t s = _ from h) fun _ _ => stationsOk_of_reset rfl rfl
  | pinResetEnd t => exact stationsOk_execPinResetEnd hs h
  | alloffAssertion t => exact stationsOk_execAlloffAssertion hs h
  | alloffRelease t => exact stationsOk_execAlloffRelease hs h
  | zeroCrossEdge t line level => exact stationsOk_execZeroCrossEdge hs h
  | acquisitionTimeout t line =>
    exact stationsOk_event hs (show execAcquisitionTimeout t line s = _ from h) fun _ => .frame rfl rfl
  | acceptanceWindowClose t line =>
    exact stationsOk_event hs (show execAcceptanceWindowClose t line s = _ from h) fun _ =>
      sameStations_moveTracker line _
  | pulseDue t =>
    exact stationsOk_event hs (show execPulseDue t s = _ from h) fun _ => .frame rfl rfl
  | pulseEnd t load => exact stationsOk_execPulseEnd hs h
  | latestStartPassed t load => exact stationsOk_execLatestStartPassed hs h
  | heldDriveStart t load => exact stationsOk_execHeldDriveStart hs h
  | heldDriveEnd t load level => exact stationsOk_execHeldDriveEnd hs h
  | postFiringCheck t load level => exact stationsOk_execPostFiringCheck hs h
  | quietSample t line levels => exact stationsOk_execQuietSample hs h
  | holdExpiry t slot => exact stationsOk_execHoldExpiry hs h
  | poll t => exact stationsOk_execPoll hs h
  | replyWindowClose t => exact stationsOk_execReplyWindowClose hs h
  | idle t frame => exact stationsOk_reply hs handlesTable_idle h
  | raiseStart t frame => exact stationsOk_reply hs handlesTable_raise h
  | lowerStart t frame => exact stationsOk_reply hs handlesTable_lower h
  | holdStop t frame => exact stationsOk_reply hs handlesTable_holdStop h
  | off t frame => exact stationsOk_reply hs handlesTable_off h
  | replyNotValid t frame => exact stationsOk_execReplyNotValid hs h
  | commandWrite t csFell frame =>
    exact stationsOk_transaction hs (t := t) (·.portTakes csFell)
      (fun v =>
        let w : CommandUnit := { v.port with sdo := sdoHigh frame.length }
        if frame = [] then w else w.takeFrame frame) h
  | responseRead t csFell clocked =>
    exact stationsOk_transaction hs (t := t) (·.portTakes csFell) (·.port.read clocked) h
  | transactionIgnored t csFell bytes =>
    exact stationsOk_transaction hs (t := t) (·.portTakes csFell)
      (fun v => { v.port with sdo := sdoHigh (bytes.length - 1) }) h
  | unknownCommand t => exact stationsOk_execUnknownCommand hs h
  | frameNotIntact t => exact stationsOk_execFrameNotIntact hs h
  | configureLines t =>
    exact stationsOk_runs hs configureLines (fun _ => rfl) h fun p _ => keepsStations_configureLines p
  | readLine t =>
    exact stationsOk_runs hs readLine (fun _ => rfl) h fun _ _ => .bind fun _ _ => .frame rfl rfl
  | defineLoad t =>
    exact stationsOk_runs hs defineLoad (fun _ => rfl) h fun _ _ =>
      .bind fun _ _ => .bind fun _ _ => .bind fun _ _ => .record (Record.noNewHold_of_none rfl)
  | enableLoad t =>
    exact stationsOk_runs hs enableLoad (fun _ => rfl) h fun _ _ =>
      .bind fun _ _ => .bind fun _ _ => .bind fun _ _ => .record (Record.noNewHold_of_none rfl)
  | disableLoad t =>
    exact stationsOk_runs hs disableLoad (fun _ => rfl) h fun p _ => keepsStations_disableLoad p
  | releaseLoad t =>
    exact stationsOk_runs hs releaseLoad (fun _ => rfl) h fun p _ => keepsStations_releaseLoad p
  | setLevel t =>
    exact stationsOk_runs hs setLevel (fun _ => rfl) h fun _ _ =>
      .bind fun _ _ => .bind fun _ _ => .bind fun _ _ => .bind fun _ _ =>
        .record (Record.noNewHold_claim _ _ _ (by simp))
  | setLock t =>
    exact stationsOk_runs hs setLock (fun _ => rfl) h fun _ _ =>
      .bind fun _ _ => .bind fun _ _ => .bind fun _ _ => .record (Record.noNewHold_of_ramp rfl)
  | clearFault t =>
    exact stationsOk_runs hs clearFault (fun _ => rfl) h fun _ _ =>
      .bind fun _ _ => .bind fun _ _ => .record (Record.noNewHold_of_none rfl)
  | readLoad t =>
    exact stationsOk_runs hs readLoad (fun _ => rfl) h fun _ _ =>
      .bind fun _ _ => .record (Record.noNewHold_of_ramp rfl)
  | stageLoad t =>
    exact stationsOk_runs hs stageLoad (fun _ => rfl) h fun _ _ =>
      .bind fun _ _ => .bind fun _ _ => .bind fun _ _ => .bind fun _ _ =>
        .record (Record.noNewHold_of_ramp rfl)
  | discardStaged t =>
    exact stationsOk_runs hs discardStaged (fun _ => rfl) h fun _ _ =>
      .bind fun _ _ => .bind fun _ _ => .bind fun _ _ => .record (Record.noNewHold_of_ramp rfl)
  | commit t =>
    exact stationsOk_runs hs Machine.commit (fun _ => rfl) h fun p _ => keepsStations_commit p
  | readCommit t => exact stationsOk_runs hs readCommit (fun _ => rfl) h fun _ _ => .frame rfl rfl
  | writeScene t =>
    exact stationsOk_runs hs writeScene (fun _ => rfl) h fun _ _ =>
      .bind fun _ _ => .bind fun _ _ => .bind fun _ _ => .frame rfl rfl
  | deleteScene t =>
    exact stationsOk_runs hs deleteScene (fun _ => rfl) h fun _ _ =>
      .bind fun _ _ => .bind fun _ _ => .frame rfl rfl
  | readScene t =>
    exact stationsOk_runs hs readScene (fun _ => rfl) h fun _ _ => .bind fun _ _ => .frame rfl rfl
  | recallScene t =>
    exact stationsOk_runs hs Machine.recallScene (fun _ => rfl) h fun _ _ =>
      .bind fun _ _ => .bind fun _ _ => .bind fun _ _ => .bind fun _ _ =>
        .same (sameStations_recallScene ..)
  | readPool t => exact stationsOk_runs hs readPool (fun _ => rfl) h fun _ _ => .frame rfl rfl
  | configureLink t =>
    exact stationsOk_runs hs configureLink (fun _ => rfl) h fun p _ => keepsStations_configureLink p
  | enrollStation t =>
    exact stationsOk_runs hs enrollStation (fun _ => rfl) h fun p _ => keepsStations_enrollStation p
  | removeStation t =>
    exact stationsOk_runs hs removeStation (fun _ => rfl) h fun p _ => keepsStations_removeStation p
  | readStation t =>
    exact stationsOk_runs hs readStation (fun _ => rfl) h fun _ _ => .bind fun _ _ => .frame rfl rfl
  | readSummary t => exact stationsOk_runs hs readSummary (fun _ => rfl) h fun _ _ => .frame rfl rfl
  | readEvents t =>
    exact stationsOk_runs hs readEvents (fun _ => rfl) h fun _ _ => .bind fun _ _ => .frame rfl rfl
  | setEventMask t =>
    exact stationsOk_runs hs setEventMask (fun _ => rfl) h fun _ _ => .bind fun _ _ => .frame rfl rfl
  | allOff t =>
    exact stationsOk_runs hs Machine.allOff (fun _ => rfl) h fun _ _ => .ok fun hv =>
      hv.takeAllOff.congr rfl rfl
  | identify t => exact stationsOk_runs hs identify (fun _ => rfl) h fun _ _ => .frame rfl rfl
  | restart t => exact stationsOk_runs hs restart (fun _ => rfl) h fun _ _ => .ok fun hv => hv.softReset
  | _ =>
    -- The RECALL row: its constructor is named by a word that Mathlib reserves.
    exact stationsOk_reply hs handlesTable_recall h

end State

/-- Settles O10: between the end of a poll and the next choice the table is sound but for the choice, and the
choice makes it sound again. -/
theorem stepKeepsStationTable : Obligations.StepKeepsStationTable := by
  intro s u hlink hholds h
  have hs : s.StationsOk := State.stationsOk_iff.2 ⟨hlink, hholds⟩
  refine State.stationsOk_iff.1 ?_
  unfold step at h
  split at h
  · obtain rfl := Host.Outcome.next.inj h
    exact hs
  · rename_i c rest _
    exact State.stationsOk_exec (s := { s with pending := rest }) (hs.congr rfl rfl) h

end Sys2Proof.Machine
end

section
/-!
SUPPORT. Reply frames: a Reply is valid exactly where it is the image of a request (R144, R188).
-/

namespace Sys2Proof.Machine

/-! ## Kind and argument of a request -/

/-- The kinds of Table 8-4 with their arguments: IDLE has none, every other request one byte. -/
theorem Request.wire_cases (r : Request) :
    r.wire = (0, []) ∨ ∃ k x, r.wire = (k, [x]) ∧ k ≠ 0 ∧ k < 8 := by
  cases r with
  | idle => exact .inl rfl
  | _ => exact .inr ⟨_, _, rfl, by decide, by decide⟩

/-- The index below `n` that an argument byte names. -/
def indexOf (n : Nat) (x : Byte) : Option (Fin n) := if h : x.toNat < n then some ⟨x.toNat, h⟩ else none

theorem indexOf_eq_some {n : Nat} (hn : n ≤ 256) {x : Byte} {i : Fin n} :
    indexOf n x = some i ↔ byte i.val = x := by
  have hi : (byte i.val).toNat = i.val := byte_toNat (i.isLt.trans_le hn)
  rw [← BitVec.toNat_inj, hi, indexOf]
  constructor
  · intro h
    split at h
    · exact congrArg Fin.val (Option.some.inj h).symm
    · simp at h
  · intro h
    simp [← h]

theorem requestOf_recall (x : Byte) (b : Bool) :
    requestOf 1 x.toNat b = (indexOf 32 x).map (.recall · b) := by
  unfold requestOf indexOf
  split <;> simp

/-- Kind and argument bytes name the request that is sent with them, and the sequence bit is its own; IDLE has
none that is read (R149). -/
theorem requestOf_eq_some {k : Nat} {x : Byte} {b : Bool} {r : Request} :
    requestOf k x.toNat b = some r ↔
      r.wire = (k, if k = 0 then [] else [x]) ∧ ∀ q ∈ r.seq, q = b := by
  have hzone (z : Zone) := indexOf_eq_some (n := 8) (by decide) (x := x) (i := z)
  have hscene (n : SceneIx) := indexOf_eq_some (n := 32) (by decide) (x := x) (i := n)
  match k with
  | 0 => cases r <;> simp [requestOf, Request.wire, Request.seq]
  | 1 =>
    rw [requestOf_recall]
    cases r <;> simp [Request.wire, Request.seq, hscene, eq_comm (a := b)]
  | 2 =>
    rw [show requestOf 2 x.toNat b = (indexOf 8 x).map (.raiseStart · b) from rfl]
    cases r <;> simp [Request.wire, Request.seq, hzone, eq_comm (a := b)]
  | 3 =>
    rw [show requestOf 3 x.toNat b = (indexOf 8 x).map (.lowerStart · b) from rfl]
    cases r <;> simp [Request.wire, Request.seq, hzone, eq_comm (a := b)]
  | 4 =>
    rw [show requestOf 4 x.toNat b = (indexOf 8 x).map (.holdStop · b) from rfl]
    cases r <;> simp [Request.wire, Request.seq, hzone, eq_comm (a := b)]
  | 5 =>
    rw [show requestOf 5 x.toNat b = (indexOf 8 x).map (.off · b) from rfl]
    cases r <;> simp [Request.wire, Request.seq, hzone, eq_comm (a := b)]
  | k + 6 =>
    rw [show requestOf (k + 6) x.toNat b = none from rfl]
    cases r <;> simp [Request.wire]

/-! ## The image of a Reply -/

/-- The request byte of kind `k` with bit 7 at `b` (R188). -/
theorem requestByte_toNat {k : Nat} (hk : k < 8) (b : Bool) :
    (byte (k + 128 * b.toNat)).toNat = k + 128 * b.toNat := by
  have hb := b.toNat_le
  exact byte_toNat (by omega)

/-- A request byte whose reserved bits are 0 is made of its kind and bit 7. -/
theorem requestByte_eq {y : Byte} (h : y.toNat / 8 % 16 = 0) :
    y = byte (y.toNat % 8 + 128 * (decide (128 ≤ y.toNat)).toNat) := by
  have hlt := y.isLt
  rw [← BitVec.toNat_inj, requestByte_toNat (Nat.mod_lt _ (by decide))]
  by_cases hb : 128 ≤ y.toNat
  · simp only [hb, decide_true, Bool.toNat_true]
    omega
  · simp only [hb, decide_false, Bool.toNat_false]
    omega

/-- The request byte read back: kind, reserved bits and bit 7. -/
theorem requestByte_fields {k : Nat} (hk : k < 8) (b : Bool) :
    (k + 128 * b.toNat) % 8 = k ∧ (k + 128 * b.toNat) / 8 % 16 = 0 ∧
      decide (128 ≤ k + 128 * b.toNat) = b := by
  cases b
  · simp only [Bool.toNat_false, decide_eq_false_iff_not]
    omega
  · simp only [Bool.toNat_true, decide_eq_true_eq]
    omega

/-! ## Valid Replies -/

/-- A complete Reply has four bytes where its kind is IDLE, and five where it is another (R188). -/
theorem replyComplete_cases {f : List Byte} (h : replyComplete f = true) :
    (∃ s c y x tail, f = s :: c :: y :: x :: tail ∧ y.toNat % 8 = 0) ∨
    (∃ s c y x z tail, f = s :: c :: y :: x :: z :: tail ∧ y.toNat % 8 ≠ 0) := by
  simp only [replyComplete, Bool.and_eq_true, decide_eq_true_eq] at h
  obtain ⟨hthree, hlen⟩ := h
  match f, hthree with
  | s :: c :: y :: rest, _ =>
    have hkind : byteAt (s :: c :: y :: rest) 2 = y.toNat := rfl
    simp only [replyLength, hkind] at hlen
    by_cases hy : y.toNat % 8 = 0
    · match rest with
      | [] => simp [hy] at hlen
      | x :: tail => exact .inl ⟨s, c, y, x, tail, rfl, hy⟩
    · match rest with
      | [] => simp [hy] at hlen
      | [_] => simp [hy] at hlen
      | x :: z :: tail => exact .inr ⟨s, c, y, x, z, tail, rfl, hy⟩

section parseReply

variable {a : Nat} {s c y x z : Byte} {tail : List Byte} {r : Request}

/-- When four bytes, with whatever follows them, are a valid Reply. -/
theorem parseReply_four (hy : y.toNat % 8 = 0) :
    parseReply a (s :: c :: y :: x :: tail) = some r ↔
      (s = Config.syncReply ∧ c.toNat = a ∧ y.toNat / 8 % 16 = 0 ∧ crc8 [s, c, y] = x) ∧
        requestOf 0 x.toNat (decide (128 ≤ y.toNat)) = some r := by
  simp [parseReply, replyComplete, replyLength, byteAt, hy, Option.ite_none_right_eq_some]

/-- When five bytes, with whatever follows them, are a valid Reply. -/
theorem parseReply_five (hy : y.toNat % 8 ≠ 0) :
    parseReply a (s :: c :: y :: x :: z :: tail) = some r ↔
      (s = Config.syncReply ∧ c.toNat = a ∧ y.toNat / 8 % 16 = 0 ∧ crc8 [s, c, y, x] = z) ∧
        requestOf (y.toNat % 8) x.toNat (decide (128 ≤ y.toNat)) = some r := by
  simp [parseReply, replyComplete, replyLength, byteAt, hy, Option.ite_none_right_eq_some]

theorem replyComplete_of_parseReply {f : List Byte} (h : parseReply a f = some r) :
    replyComplete f = true := by
  unfold parseReply at h
  obtain ⟨⟨hcomplete, -⟩, -⟩ := Option.ite_none_right_eq_some.1 h
  exact hcomplete

end parseReply

/-- The image of a request without an argument. -/
theorem replyFrame_four {r : Request} {k : Nat} (hw : r.wire = (k, [])) (a : Nat) (b : Bool) :
    replyFrame a b r =
      let body := [Config.syncReply, byte a, byte (k + 128 * b.toNat)]
      body ++ [crc8 body] := by
  simp [replyFrame, hw]

/-- The image of a request with its argument. -/
theorem replyFrame_five {r : Request} {k : Nat} {x : Byte} (hw : r.wire = (k, [x])) (a : Nat) (b : Bool) :
    replyFrame a b r =
      let body := [Config.syncReply, byte a, byte (k + 128 * b.toNat), x]
      body ++ [crc8 body] := by
  simp [replyFrame, hw]

/-- A Reply image, whatever follows it, is a valid Reply from the address it carries (R144). -/
theorem parseReply_replyFrame {a : Nat} (ha : a ≤ 31) {b : Bool} {r : Request}
    (hb : ∀ q ∈ r.seq, q = b) (tail : List Byte) :
    parseReply a (replyFrame a b r ++ tail) = some r := by
  have haddr : (byte a).toNat = a := byte_toNat (by omega)
  rcases r.wire_cases with hw | ⟨k, x, hw, hk0, hk⟩
  · have hy := requestByte_toNat (k := 0) (by decide) b
    obtain ⟨hkind, hres, hbit⟩ := requestByte_fields (k := 0) (by decide) b
    rw [← hy] at hkind hres hbit
    rw [replyFrame_four hw]
    refine (parseReply_four hkind).2 ⟨⟨rfl, haddr, hres, rfl⟩, ?_⟩
    rw [hbit, requestOf_eq_some]
    exact ⟨hw, hb⟩
  · have hy := requestByte_toNat hk b
    obtain ⟨hkind, hres, hbit⟩ := requestByte_fields hk b
    rw [← hy] at hkind hres hbit
    rw [replyFrame_five hw]
    refine (parseReply_five (by rwa [hkind])).2 ⟨⟨rfl, haddr, hres, rfl⟩, ?_⟩
    rw [hkind, hbit, requestOf_eq_some, if_neg hk0]
    exact ⟨hw, hb⟩

/-- A valid Reply is the image of its request from the polled address, with bit 7 as it is carried. -/
theorem eq_replyFrame_of_parseReply {a : Nat} {f : List Byte} {r : Request}
    (h : parseReply a f = some r) :
    ∃ b tail, (∀ q ∈ r.seq, q = b) ∧ f = replyFrame a b r ++ tail := by
  have hbyte {c : Byte} (hc : c.toNat = a) : c = byte a := by
    rw [← hc]
    simp [byte]
  rcases replyComplete_cases (replyComplete_of_parseReply h) with
    ⟨s, c, y, x, tail, rfl, hy⟩ | ⟨s, c, y, x, z, tail, rfl, hy⟩
  · obtain ⟨⟨rfl, hc, hres, rfl⟩, hreq⟩ := (parseReply_four hy).1 h
    obtain ⟨hw, hb⟩ := requestOf_eq_some.1 hreq
    refine ⟨_, tail, hb, ?_⟩
    have himage := requestByte_eq hres
    rw [hy] at himage
    rw [replyFrame_four hw, ← himage, ← hbyte hc]
    rfl
  · obtain ⟨⟨rfl, hc, hres, rfl⟩, hreq⟩ := (parseReply_five hy).1 h
    obtain ⟨hw, hb⟩ := requestOf_eq_some.1 hreq
    rw [if_neg hy] at hw
    refine ⟨_, tail, hb, ?_⟩
    rw [replyFrame_five hw, ← requestByte_eq hres, ← hbyte hc]
    rfl

/-- Settles O13. -/
theorem validReplyIsReplyImage : Obligations.ValidReplyIsReplyImage := by
  intro a f r _ ha
  constructor
  · exact eq_replyFrame_of_parseReply
  · rintro ⟨b, tail, hb, rfl⟩
    exact parseReply_replyFrame ha hb tail

end Sys2Proof.Machine
end

section
/-!
SUPPORT. POLL and the outcomes of a poll: the Poll frame, a window that closes without a valid Reply, IDLE
and a Reply that is not valid.
-/

namespace Sys2Proof.Machine

/-! ## POLL (R145, R151) -/

/-- The Poll frame by the parts of its acknowledgement byte: result with reason, and sequence bit (R151). -/
theorem pollFrame_of_parts {x : StationSlot} {result seq : Nat}
    (hresult : (resultCode x.lastResult).toNat + 4 * (reasonCode x.lastResult).toNat = result)
    (hseq : x.lastSeq.elim 0 (fun q => 32 + 16 * q.toNat) = seq) (address : Nat) :
    pollFrame address x =
      let body := [0x96#8, byte address, byte (result + seq)]
      body ++ [crc8 body] := by
  subst hresult hseq
  unfold pollFrame
  cases x.lastSeq <;> rfl

/-- With the link on, no poll in flight and the turnaround over the chosen slot is polled. -/
theorem exec_poll {s : State} {t : Nat} {c : Choice} {e : Enrolment} (hr : s.rstLow = false)
    (hon : s.link.enable = true) (hpoll : s.link.poll = none) (hnext : s.link.nextPollAt ≤ max s.now t)
    (hc : s.link.chosen = some c) (he : (s.slot c.slot).station = some e) :
    exec (.poll t) s = .next { s.at t with
      link := StationLink.sendPoll { s.link.polled c with chosen := none } c.slot e (max s.now t) } := by
  rw [show exec (.poll t) s = execPoll t s from rfl, execPoll, State.takes_high hr]
  simp only [State.at_link, State.at_now, State.at_slot, hon, hpoll, hnext, hc, he, Option.isNone_none,
    decide_true, Bool.and_self, if_true]

/-- LDE is high as a Poll frame begins (R144). -/
theorem lde_of_poll {u : State} {q : Poll} (h : u.link.poll = some q)
    (hq : q.start ≤ u.now ∧ u.now < q.windowOpen) : u.lde = true := by
  simp [State.lde, h, hq]

/-- Settles O34. -/
theorem pollPicksNextSlotOfRound : Obligations.PollPicksNextSlotOfRound := by
  refine ⟨StationLink.chooses_chooseNext, fun s t i c e hr hon hpoll hnext hc hi he => ?_⟩
  intro now x ack body
  have hslot : c.slot = i := by rcases hi with rfl | rfl <;> rfl
  refine ⟨_, exec_poll hr hon hpoll hnext hc (hslot ▸ he), lde_of_poll rfl ?_, ?_⟩
  · exact ⟨Nat.le_refl _, Nat.lt_add_of_pos_right (by decide)⟩
  · have hframe : pollFrame e.address x = body ++ [crc8 body] := by
      refine pollFrame_of_parts ?_ ?_ e.address
      · cases x.lastResult with
        | refused why => cases why <;> rfl
        | _ => rfl
      · cases x.lastSeq with
        | none => rfl
        | some q => exact Nat.add_comm _ _
    rw [← hframe]
    have hpolled : StationLink.sendPoll { s.link.polled c with chosen := none } c.slot e now = { s.link with
        roundPosition := if c = .online i then some i else s.link.roundPosition
        rediscovered := if c = .online i then s.link.rediscovered else true
        pointer := if c = .online i then s.link.pointer else i
        chosen := none
        poll := some ⟨i, e.address, now, now + 1040, now + 5040, none, false⟩
        ltx := pollFrame e.address x } := by
      rcases hi with rfl | rfl
      · simp only [if_true]
        rfl
      · simp only [reduceCtorEq, if_false]
        rfl
    rw [hpolled]
    rfl

/-! ## A window that closes (R145, R147, R148) -/

namespace State

variable {s : State} {t : Nat} {q : Poll} {i : SlotIx}

/-- The poll `q` has ended without a valid Reply. What its slot makes of it, and the next slot, are still
open. -/
def unanswered (s : State) (t : Nat) (q : Poll) : State :=
  { s.at t with link := { s.link with
      poll := none
      nextPollAt := if q.discard = some .stopped then s.link.nextPollAt else max s.now t + 200 } }

@[simp] theorem slot_unanswered (j : SlotIx) : (s.unanswered t q).slot j = s.slot j := rfl

theorem endPoll_unanswered (h : s.link.poll = some q) :
    { s.at t with link := (s.at t).link.endPoll (s.at t).now } = s.unanswered t q := by
  rw [show (s.at t).link.endPoll (s.at t).now = _ from StationLink.endPoll_eq h _]
  rfl

/-- A slot that is not ONLINE counts no failure. -/
theorem failPoll_of_not_online (h : (s.slot i).state ≠ .online) : s.failPoll i = s := by
  cases hx : (s.slot i).state with
  | empty => simp only [failPoll, hx]
  | offline => simp only [failPoll, hx]
  | online => exact absurd hx h

/-- The first four failures in a row are counted. -/
theorem failPoll_of_lt (h : (s.slot i).state = .online) (hfew : (s.slot i).failCount < 4) :
    s.failPoll i = s.modifySlot i fun x => { x with failCount := x.failCount + 1 } := by
  simp only [failPoll, h]
  exact if_pos (Nat.succ_lt_succ hfew)

/-- The fifth failure takes the slot OFFLINE without its hold, and is reported. -/
theorem failPoll_of_le (h : (s.slot i).state = .online) (hmany : 4 ≤ (s.slot i).failCount) :
    s.failPoll i = { (s.stopHoldOf i).modifySlot i
        fun x => { x with state := .offline, failCount := 0 } with
      attention := s.attention.reportStation i fun d => { d with offline := true } } := by
  have hno : ¬ (s.slot i).failCount + 1 < Config.failsToOffline :=
    Nat.not_lt.2 (Nat.succ_le_succ hmany)
  simp only [failPoll, h, if_neg hno, modifySlot_attention]
  rw [stopHoldOf_frame s i]

/-- From `s` to `v` load records, slots and attention alone have changed. -/
def SameButSlots (s v : State) : Prop :=
  v = { s with
    loads := v.loads, link := { s.link with slots := v.link.slots }, attention := v.attention }

/-- A failed poll reaches load records, slots and attention alone. -/
theorem failPoll_frame (s : State) (i : SlotIx) : s.SameButSlots (s.failPoll i) := by
  unfold SameButSlots
  by_cases hon : (s.slot i).state = .online
  · rcases Nat.lt_or_ge (s.slot i).failCount 4 with hfew | hmany
    · rw [failPoll_of_lt hon hfew]
      rfl
    · rw [failPoll_of_le hon hmany, stopHoldOf_frame s i]
      rfl
  · rw [failPoll_of_not_online hon]

theorem failPoll_slot_ne {j : SlotIx} (hj : j ≠ i) : (s.failPoll i).slot j = s.slot j := by
  by_cases hon : (s.slot i).state = .online
  · rcases Nat.lt_or_ge (s.slot i).failCount 4 with hfew | hmany
    · rw [failPoll_of_lt hon hfew, slot_modifySlot_ne _ hj]
    · rw [failPoll_of_le hon hmany]
      exact (slot_modifySlot_ne _ hj _).trans (slot_stopHoldOf_ne _ hj)
  · rw [failPoll_of_not_online hon]

/-- What a poll without a valid Reply makes of the part: nothing more where it was discarded. -/
def failUnlessDiscarded (s : State) (t : Nat) (q : Poll) : State :=
  if q.discard.isSome then s.unanswered t q else (s.unanswered t q).failPoll q.slot

theorem failUnlessDiscarded_frame : (s.unanswered t q).SameButSlots (s.failUnlessDiscarded t q) := by
  unfold failUnlessDiscarded
  split
  · rfl
  · exact failPoll_frame _ _

theorem failUnlessDiscarded_slot_ne {j : SlotIx} (hj : j ≠ q.slot) :
    (s.failUnlessDiscarded t q).slot j = s.slot j := by
  unfold failUnlessDiscarded
  split
  · rfl
  · exact failPoll_slot_ne hj

theorem failUnlessDiscarded_of_ignored (h : q.discard.isSome = true ∨ (s.slot q.slot).state ≠ .online) :
    s.failUnlessDiscarded t q = s.unanswered t q := by
  unfold failUnlessDiscarded
  split
  · rfl
  · rename_i hd
    exact failPoll_of_not_online (h.resolve_left hd)

theorem failUnlessDiscarded_of_none (h : q.discard = none) :
    s.failUnlessDiscarded t q = (s.unanswered t q).failPoll q.slot := by
  simp [failUnlessDiscarded, h]

/-- What has become of records, slots and attention stands, and the next slot is chosen from there (R146). -/
theorem SameButSlots.chooses {w v : State} (h : w.SameButSlots v) :
    StationLink.Chooses { w.link with slots := v.chooseNext.link.slots } v.chooseNext.link := by
  have hlink : v.link = { w.link with slots := v.chooseNext.link.slots } := by
    rw [chooseNext_link, StationLink.chooseNext_slots]
    exact congrArg State.link h
  rw [← hlink]
  exact v.link.chooses_chooseNext

@[simp] theorem slot_chooseNext (v : State) (j : SlotIx) : v.chooseNext.slot j = v.slot j := by
  simp [slot]

end State

/-- A window that closes ends its poll (R145). -/
theorem exec_replyWindowClose_due {s : State} {t : Nat} {q : Poll} (hr : s.rstLow = false)
    (hq : s.link.poll = some q) (hdue : q.windowEnd ≤ max s.now t) :
    exec (.replyWindowClose t) s = .next (s.failUnlessDiscarded t q).chooseNext := by
  rw [show exec (.replyWindowClose t) s = execReplyWindowClose t s from rfl, execReplyWindowClose,
    State.takes_high hr]
  simp only [State.at_link, hq]
  rw [if_pos (by exact hdue), State.failUnlessDiscarded, ← State.endPoll_unanswered hq]
  rfl

/-- Settles O35. -/
theorem windowCloseFailsPoll : Obligations.WindowCloseFailsPoll := by
  intro s t q hr hq hdue x
  let w := s.unanswered t q
  let v := s.failUnlessDiscarded t q
  have hframe : w.SameButSlots v := State.failUnlessDiscarded_frame
  have hlink : v.link = { w.link with slots := v.link.slots } := congrArg State.link hframe
  have hnext : v.chooseNext.link.nextPollAt =
      if q.discard = some .stopped then s.link.nextPollAt else max s.now t + 200 := by
    rw [State.chooseNext_link, StationLink.chooseNext_nextPollAt, hlink]
    rfl
  refine ⟨v.chooseNext, exec_replyWindowClose_due hr hq hdue, ?_, ?_, ?_, hnext, fun j hj => ?_, ?_, ?_, ?_⟩
  · rw [State.chooseNext_link, StationLink.chooseNext_poll, hlink]
    rfl
  · exact congrArg (fun y : State => { y with
      loads := v.loads, link := v.chooseNext.link, attention := v.attention }) hframe
  · have hchooses := hframe.chooses
    rw [hnext]
    exact hchooses
  · rw [State.slot_chooseNext]
    exact State.failUnlessDiscarded_slot_ne hj
  · intro hignored
    have hv : v = w := State.failUnlessDiscarded_of_ignored hignored
    rw [State.slot_chooseNext, hv]
    exact ⟨rfl, rfl, rfl⟩
  · intro hd hon hfew
    have hv : v = w.modifySlot q.slot fun x => { x with failCount := x.failCount + 1 } :=
      (State.failUnlessDiscarded_of_none hd).trans (State.failPoll_of_lt hon hfew)
    rw [State.slot_chooseNext, hv]
    exact ⟨State.slot_modifySlot_self _ _ _, rfl, rfl⟩
  · intro hd hon hmany
    have hv : v = { (w.stopHoldOf q.slot).modifySlot q.slot
          fun x => { x with state := .offline, failCount := 0 } with
        attention := s.attention.reportStation q.slot fun d => { d with offline := true } } :=
      (State.failUnlessDiscarded_of_none hd).trans (State.failPoll_of_le hon hmany)
    rw [State.slot_chooseNext, hv]
    refine ⟨?_, fun hhold n => ?_, fun hhold => ?_, rfl⟩
    · refine (State.slot_modifySlot_self _ _ _).trans ?_
      rw [State.slot_stopHoldOf_self]
      rfl
    · exact w.holdStopped_stopHoldOf_some (i := q.slot) (Option.isSome_iff_ne_none.2 hhold) n
    · have hsame : w.stopHoldOf q.slot = w := State.stopHoldOf_none hhold
      change (w.stopHoldOf q.slot).loads = s.loads
      rw [hsame]
      rfl

/-! ## IDLE and a Reply that is not valid (R147, R149) -/

/-- IDLE brings its slot ONLINE and empties its last result. -/
theorem State.Awaits.exec_idle {s : State} {t : Nat} {q : Poll} {f : List Byte} (h : s.Awaits t q)
    (hp : parseReply q.address f = some .idle) :
    exec (.idle t f) s = .next (s.served t q { s.slot q.slot with
      state := .online, failCount := 0, lastResult := .nothing }).chooseNext := by
  rw [show exec (.idle t f) s = execIdle t f s from rfl, execIdle, State.takes_high h.1,
    h.takeReply hp (handle := Request.takeIdle) rfl, h.answer_eq, State.modifySlot_served]

/-- A complete Reply that is not valid ends the listening, and the poll goes on to the end of its window. -/
theorem State.Awaits.exec_replyNotValid {s : State} {t : Nat} {q : Poll} {f : List Byte}
    (h : s.Awaits t q) (hcomplete : replyComplete f = true) (hp : parseReply q.address f = none) :
    exec (.replyNotValid t f) s = .next { s.at t with
      link := { s.link with poll := some { q with answered := true } } } := by
  have hlistening := h.listening
  obtain ⟨hr, -, hd, -⟩ := h
  rw [show exec (.replyNotValid t f) s = execReplyNotValid t f s from rfl, execReplyNotValid,
    State.takes_high hr]
  simp only [hlistening, hcomplete, hp, hd, Option.isNone_none, Option.isSome_none, Bool.and_self, if_true,
    Bool.false_eq_true, if_false, State.at_link]

/-- Settles O36. -/
theorem idleAndInvalidReplies : Obligations.IdleAndInvalidReplies := by
  refine ⟨fun s t q f h hp => ?_, fun s t q f h hcomplete hp => h.exec_replyNotValid hcomplete hp⟩
  exact ⟨_, h.exec_idle hp, rfl, State.serves_chooseNext (x := { s.slot q.slot with
      state := .online, failCount := 0, lastResult := .nothing }) State.slot_served_self
    (fun j hj => State.slot_served_ne hj) rfl⟩

end Sys2Proof.Machine
end

section
/-!
SUPPORT. Duplicates and refusals: what a Reply row makes of a request before it is carried out (R149, R150).
-/

namespace Sys2Proof.Machine

/-! ## The five rows that judge a request -/

namespace Request

/-- Why a request of slot `i` is refused, if it is: the scene of a RECALL, the zone of the others (R150). -/
def refusal : Request → SlotIx → State → Option Reason
  | .idle, _, _ => none
  | .recall n _, _, s => s.refuseRecall n
  | .raiseStart z _, i, s => s.refuseZone i z
  | .lowerStart z _, i, s => s.refuseZone i z
  | .holdStop z _, i, s => s.refuseZone i z
  | .off z _, i, s => s.refuseZone i z

/-- What an accepted request of slot `i` carries out (R152 to R156). -/
def carryOut : Request → SlotIx → State → State
  | .idle, _, s => s
  | .recall n _, i, s => s.stationRecall i n
  | .raiseStart z _, i, s => s.startHold i z .raise
  | .lowerStart z _, i, s => s.startHold i z .lower
  | .holdStop z _, i, s => s.endHold i z
  | .off z _, i, s => s.zoneOff i z

/-- The instruction `c` is the row of the request `r`, which has the sequence bit `b`. -/
def RowOf (t : Nat) (f : List Byte) (c : Instr) (r : Request) (b : Bool) : Prop :=
  (∃ n, r = .recall n b ∧ c = .recall t f) ∨ (∃ z, r = .raiseStart z b ∧ c = .raiseStart t f) ∨
    (∃ z, r = .lowerStart z b ∧ c = .lowerStart t f) ∨
    (∃ z, r = .holdStop z b ∧ c = .holdStop t f) ∨ (∃ z, r = .off z b ∧ c = .off t f)

variable {t : Nat} {f : List Byte} {c : Instr} {r : Request} {b : Bool}

/-- Each row takes its request by judging it. -/
theorem RowOf.takes (h : RowOf t f c r b) : ∃ handle : Request → Option (SlotIx → State → State),
    (∀ s, exec c s = s.takes t fun v => v.takeReply f handle) ∧
    handle r = some fun i v => v.judge i b (r.refusal i v) (r.carryOut i) := by
  rcases h with ⟨n, rfl, rfl⟩ | ⟨z, rfl, rfl⟩ | ⟨z, rfl, rfl⟩ | ⟨z, rfl, rfl⟩ | ⟨z, rfl, rfl⟩
  · exact ⟨takeRecall, fun _ => rfl, rfl⟩
  · exact ⟨takeRaise, fun _ => rfl, rfl⟩
  · exact ⟨takeLower, fun _ => rfl, rfl⟩
  · exact ⟨takeHoldStop, fun _ => rfl, rfl⟩
  · exact ⟨takeOff, fun _ => rfl, rfl⟩

/-- A row is of a RECALL, or of a request on the zone that its wire form carries. -/
theorem RowOf.recall_or_zone (h : RowOf t f c r b) : (∃ n, r = .recall n b) ∨
    ∃ z : Zone, (r.wire.2.headD 0).toNat = z.val ∧ ∀ i s, r.refusal i s = s.refuseZone i z := by
  have hzone (z : Zone) : (byte z.val).toNat = z.val := byte_toNat (by omega)
  rcases h with ⟨n, rfl, -⟩ | ⟨z, rfl, -⟩ | ⟨z, rfl, -⟩ | ⟨z, rfl, -⟩ | ⟨z, rfl, -⟩
  · exact .inl ⟨n, rfl⟩
  · exact .inr ⟨z, hzone z, fun _ _ => rfl⟩
  · exact .inr ⟨z, hzone z, fun _ _ => rfl⟩
  · exact .inr ⟨z, hzone z, fun _ _ => rfl⟩
  · exact .inr ⟨z, hzone z, fun _ _ => rfl⟩

/-- Inhibit refuses every request (R150). -/
theorem RowOf.refusal_inhibited (h : RowOf t f c r b) {s : State} (hi : s.firing.inhibit = true)
    (i : SlotIx) : r.refusal i s = some .inhibited := by
  rcases h.recall_or_zone with ⟨n, rfl⟩ | ⟨z, -, hz⟩
  · exact if_pos hi
  · rw [hz]
    exact if_pos hi

/-- Outside inhibit a request on a zone that the station is not allowed is refused (R150). -/
theorem RowOf.refusal_notAllowed (h : RowOf t f c r b) {s : State} (hi : s.firing.inhibit = false)
    (hother : ∀ n q, r ≠ .recall n q) {i : SlotIx}
    (hzone : (s.slot i).allowed.getLsbD (r.wire.2.headD 0).toNat = false) :
    r.refusal i s = some .notAllowed := by
  rcases h.recall_or_zone with ⟨n, rfl⟩ | ⟨z, hval, hz⟩
  · exact absurd rfl (hother n b)
  · rw [hval] at hzone
    have hnot : hasZone (s.slot i).allowed z = false := hzone
    simp [hz, State.refuseZone, hi, hnot]

/-- Outside inhibit the RECALL of an undefined scene is refused (R134, R150). -/
theorem refusal_noScene {s : State} {n : SceneIx} (hi : s.firing.inhibit = false)
    (hn : s.scenes.scenes.get n = none) (i : SlotIx) :
    (Request.recall n b).refusal i s = some .noScene := by
  simp [refusal, State.refuseRecall, hi, hn]

end Request

/-! ## A request that is not carried out -/

namespace State

variable {s : State} {t : Nat} {q : Poll} {f : List Byte} {c : Instr} {r : Request} {b : Bool}

/-- The part with the poll `q` answered, before its request is judged (R147). -/
def answered (s : State) (t : Nat) (q : Poll) : State :=
  s.served t q { s.slot q.slot with state := .online, failCount := 0 }

@[simp] theorem slot_answered_self :
    (s.answered t q).slot q.slot = { s.slot q.slot with state := .online, failCount := 0 } :=
  slot_served_self

/-- A request that a row takes is judged on the part with its poll answered, and the next slot is chosen. -/
theorem Awaits.exec_row (h : s.Awaits t q) (hp : parseReply q.address f = some r)
    (hc : Request.RowOf t f c r b) : exec c s = .next (State.chooseNext
      ((s.answered t q).judge q.slot b (r.refusal q.slot (s.answered t q)) (r.carryOut q.slot))) := by
  obtain ⟨handle, hexec, hhandle⟩ := hc.takes
  rw [hexec, takes_high h.1, h.takeReply hp hhandle, h.answer_eq]
  rfl

/-- The poll `q` has ended with a request that is refused: the refusal is reported besides (R150). -/
def servedRefused (s : State) (t : Nat) (q : Poll) (y : StationSlot) : State :=
  { s.served t q y with
    attention := (s.served t q y).attention.reportStation q.slot fun d => { d with refused := true } }

theorem serves_servedRefused (s : State) (t : Nat) (q : Poll) (y : StationSlot) :
    s.Serves (s.servedRefused t q y).chooseNext t q y fun d => { d with refused := true } := by
  obtain ⟨hself, hother, -, hchooses, -⟩ : s.Serves (s.served t q y).chooseNext t q y id :=
    serves_chooseNext (x := y) slot_served_self (fun _ hj => slot_served_ne hj) rfl
  refine ⟨hself, hother, ?_, hchooses, rfl⟩
  change (s.served t q y).attention.reportStation q.slot _ = _
  simp only [served, Attention.reportStation, Table.modify_modify]

/-- A duplicate is answered and nothing more (R149). -/
theorem Awaits.duplicate (h : s.Awaits t q) (hp : parseReply q.address f = some r)
    (hc : Request.RowOf t f c r b) (hdup : (s.slot q.slot).lastSeq = some b) :
    exec c s = .next (s.answered t q).chooseNext := by
  rw [h.exec_row hp hc, judge_duplicate (by rw [slot_answered_self]; exact hdup)]

/-- A new request that is refused is judged so and not carried out (R150). -/
theorem Awaits.refused (h : s.Awaits t q) (hp : parseReply q.address f = some r)
    (hc : Request.RowOf t f c r b) (hnew : (s.slot q.slot).lastSeq ≠ some b) {why : Reason}
    (hwhy : r.refusal q.slot (s.answered t q) = some why) :
    exec c s = .next
      (s.servedRefused t q ((s.slot q.slot).judged b (.refused why))).chooseNext := by
  rw [h.exec_row hp hc, hwhy, judge_refused (by rw [slot_answered_self]; exact hnew)]
  simp only [answered, modifySlot_served]
  rfl

end State

/-- Settles O39. -/
theorem duplicatesAndRefusalsTouchNoLoad : Obligations.DuplicatesAndRefusalsTouchNoLoad := by
  intro s t q f c r b h hp hc x zone refused
  have hrow : Request.RowOf t f c r b := hc
  have hallowed : ((s.answered t q).slot q.slot).allowed = x.allowed :=
    StationSlot.allowed_congr (by rw [State.slot_answered_self])
  have hrefused (why : Reason) (hnew : x.lastSeq ≠ some b)
      (hwhy : r.refusal q.slot (s.answered t q) = some why) : refused why :=
    ⟨_, h.refused hp hrow hnew hwhy, rfl, s.serves_servedRefused t q _⟩
  refine ⟨fun hdup => ?_, fun hnew hi => ?_, fun hnew hi hother hzone => ?_, fun n hnew hi hr hn => ?_⟩
  · exact ⟨_, h.duplicate hp hrow hdup, rfl, State.serves_chooseNext
      (x := { x with state := .online, failCount := 0 }) State.slot_served_self
      (fun _ hj => State.slot_served_ne hj) rfl⟩
  · exact hrefused _ hnew (hrow.refusal_inhibited (s := s.answered t q) hi q.slot)
  · exact hrefused _ hnew (hrow.refusal_notAllowed (s := s.answered t q) hi hother
      (by rw [hallowed]; exact hzone))
  · subst hr
    exact hrefused _ hnew (Request.refusal_noScene (s := s.answered t q) hi hn q.slot)

end Sys2Proof.Machine
end

section
/-!
SUPPORT. CONFIGURE_LINK: the settings as carried, and the link that is switched on or off (R142, R143).
-/

namespace Sys2Proof.Machine

/-! ## The settings carried (Table 8-2) -/

/-- Settings in range read back as they were sent. -/
theorem linkSettingsAt_of_inRange {on : Bool} {step expiry fade : Nat} (hstep : 1 ≤ step)
    (hstep' : step ≤ 50) (hexpiry : 200 ≤ expiry) (hexpiry' : expiry ≤ 5000) (hfade : fade ≤ 6000) :
    linkSettingsAt (flagByte on :: byte step :: (word expiry ++ word fade)) =
      some ⟨on, step, expiry, fade⟩ := by
  have hbool := boolAt_flagByte on (byte step :: (word expiry ++ word fade))
  have hbyte : (byte step).toNat = step := byte_toNat (by omega)
  have hword : wordAt (word expiry ++ word fade) 0 = expiry := wordAt_word (by omega) _
  have hword' : wordAt (word expiry ++ word fade) 2 = fade := by
    have hlast := wordAt_word (show fade < 65536 by omega) []
    rwa [List.append_nil] at hlast
  simp [linkSettingsAt, hbool, hbyte, hword, hword', hstep, hstep', hexpiry, hexpiry', hfade]

/-! ## A change of link_enable (R143) -/

namespace State

variable (s : State)

theorem switchLink_same (b : Bool) : s.switchLink b b = s := by cases b <;> rfl

theorem switchLink_on : s.switchLink false true = { s with link := s.link.newRound.chooseNext } := rfl

/-- A link that stops stops every hold, discards its poll and chooses no slot. -/
theorem switchLink_off (h : s.link.enable = false) : s.switchLink true false =
    { s.stopHolds (fun i => (s.slot i).hold.isSome) with link := { s.link with
      slots := (s.stopHolds fun i => (s.slot i).hold.isSome).link.slots
      poll := s.link.poll.map fun q => { q with discard := some .stopped }
      nextPollAt := (s.link.poll.map fun q => max s.link.nextPollAt q.windowEnd).getD s.link.nextPollAt
      chosen := none } } := by
  have hoff : ((s.stopHolds fun i => (s.slot i).hold.isSome).link.discardPoll .stopped).enable = false := by
    rw [StationLink.discardPoll_stopped]
    exact h
  unfold switchLink
  simp only [Bool.not_false, Bool.and_self, if_true]
  rw [StationLink.chooseNext_off hoff, StationLink.discardPoll_stopped]
  rfl

/-- A switched link reaches load records and the link alone. -/
theorem switchLink_frame (before after : Bool) : s.switchLink before after = { s with
    loads := (s.switchLink before after).loads, link := (s.switchLink before after).link } := by
  unfold switchLink
  dsimp only
  split
  · rfl
  · split <;> rfl

/-- The stop of all holds that slots hold leaves no slot with one. -/
theorem slot_stopHolds_all (i : SlotIx) :
    (s.stopHolds fun i => (s.slot i).hold.isSome).slot i = { s.slot i with hold := none } := by
  rw [slot_stopHolds]
  split
  · rfl
  · rename_i hnone
    rw [← Option.not_isSome_iff_eq_none.1 hnone]

end State

theorem configureLink_ok {p : List Byte} {c : LinkSettings} (h : linkSettingsAt p = some c) (s : State) :
    configureLink p s = .ok ((s.stored c).switchLink s.link.enable c.enable, []) := by
  simp only [configureLink, h]
  rfl

/-- Settles O55. -/
theorem configureLinkStoresAndSwitches : Obligations.ConfigureLinkStoresAndSwitches := by
  intro s t on step expiry fade hstep hstep' hexpiry hexpiry' hfade h stored
  let w := (s.at t).stored ⟨on, step, expiry, fade⟩
  let v := w.switchLink s.link.enable on
  have hframe : v = { w with loads := v.loads, link := v.link } := w.switchLink_frame _ _
  have hset := linkSettingsAt_of_inRange (on := on) hstep hstep' hexpiry hexpiry' hfade
  refine ⟨v.respond .ok [], h.exec_ok (fun _ => rfl) rfl rfl (configureLink_ok hset (s.at t)),
    State.answers_respond_of_port (congrArg State.port hframe) .ok [], ?_, fun heq => ?_,
    fun hwas hon => ?_, fun hwas hon => ?_⟩
  · exact congrArg (fun y : State => { y with
      loads := v.loads, link := v.link, port := (v.respond .ok []).port }) hframe
  · have hv : v = w := by
      subst heq
      exact w.switchLink_same _
    rw [hv]
    exact ⟨rfl, rfl⟩
  · have hv : v = { w with link := w.link.newRound.chooseNext } := by
      simp only [v, hwas, hon]
      exact w.switchLink_on
    rw [hv]
    exact ⟨rfl, w.link.newRound.chooses_chooseNext⟩
  · have hv := w.switchLink_off hon
    rw [show w.switchLink true false = v by simp only [v, hwas, hon]] at hv
    rw [hv]
    exact ⟨w.slot_stopHolds_all, w.holdStopped_stopHolds _, rfl⟩

end Sys2Proof.Machine
end

section
/-!
SUPPORT. What ENROLL_STATION and REMOVE_STATION answer, and the slots they fill and empty (R139, R140).
-/

namespace Sys2Proof.Machine

/-! ## ENROLL_STATION -/

/-- Into an all-EMPTY table an enrolment begins a new round with its choice (R139, R146). -/
theorem StationLink.chooses_enroll (k : StationLink) (i : SlotIx) (address : Nat) (zones : ZoneSet) :
    let enrolled := k.setSlot i (.enrolled address zones)
    if ∀ j, (k.slots.get j).state = .empty then enrolled.newRound.Chooses (k.enroll i address zones)
    else k.enroll i address zones = enrolled := by
  intro enrolled
  unfold enroll
  split
  · exact enrolled.newRound.chooses_chooseNext
  · rfl

namespace State

variable {s : State} {t : Nat} {i : SlotIx}

/-- The answer to an ENROLL_STATION that fills slot `i`. -/
def enrolledReply (s : State) (t : Nat) (i : SlotIx) (address : Nat) (zones : ZoneSet) : State :=
  State.respond { s.at t with link := s.link.enroll i address zones } .ok [byte i.val]

theorem slot_enrolledReply_self (address : Nat) (zones : ZoneSet) :
    (s.enrolledReply t i address zones).slot i = .enrolled address zones :=
  (congrArg (Table.get · i) (s.link.enroll_slots i address zones)).trans (Table.get_set_self _ _ _)

theorem slot_enrolledReply_ne {j : SlotIx} (hj : j ≠ i) (address : Nat) (zones : ZoneSet) :
    (s.enrolledReply t i address zones).slot j = s.slot j :=
  (congrArg (Table.get · j) (s.link.enroll_slots i address zones)).trans (Table.get_set_ne _ hj _)

namespace Executing

variable {address : Nat} {zones : ZoneSet}

/-- The three outcomes of ENROLL_STATION: a held address, a full table, the lowest EMPTY slot filled. -/
theorem exec_enroll_taken (h : s.Executing 0x51#8 [byte address, zones])
    (hr : 1 ≤ address ∧ address ≤ 31) (ht : s.link.addressTaken address = true) :
    ∃ u, exec (.enrollStation t) s = .next u ∧ s.Refuses u t .state := by
  have hbyte : byteAt [byte address, zones] 0 = address := byte_toNat (by omega)
  refine h.exec_error (fun _ => rfl) rfl rfl (body := enrollStation) (enrollStation_taken ?_ ?_)
  · rwa [hbyte]
  · rwa [hbyte]

theorem exec_enroll_full (h : s.Executing 0x51#8 [byte address, zones])
    (hr : 1 ≤ address ∧ address ≤ 31) (ht : s.link.addressTaken address = false) (hi : s.link.freeSlot = none) :
    ∃ u, exec (.enrollStation t) s = .next u ∧ s.Refuses u t .noSpace := by
  have hbyte : byteAt [byte address, zones] 0 = address := byte_toNat (by omega)
  refine h.exec_error (fun _ => rfl) rfl rfl (body := enrollStation) (enrollStation_full ?_ ?_ hi)
  · rwa [hbyte]
  · rwa [hbyte]

theorem exec_enroll_ok (h : s.Executing 0x51#8 [byte address, zones])
    (hr : 1 ≤ address ∧ address ≤ 31) (ht : s.link.addressTaken address = false) (hi : s.link.freeSlot = some i) :
    exec (.enrollStation t) s = .next (s.enrolledReply t i address zones) := by
  have hbyte : byteAt [byte address, zones] 0 = address := byte_toNat (by omega)
  have hok : enrollStation [byte address, zones] (s.at t) =
      .ok ({ s.at t with link := s.link.enroll i address zones }, [byte i.val]) := by
    rw [enrollStation_ok (s := s.at t) (i := i) (by rwa [hbyte]) (by rwa [hbyte]) hi, hbyte]
    rfl
  exact h.exec_ok (fun _ => rfl) rfl rfl hok

end Executing

/-! ## REMOVE_STATION -/

/-- The answer to a REMOVE_STATION of slot `i`, which is in use. -/
def removedReply (s : State) (t : Nat) (i : SlotIx) : State :=
  State.respond { s.at t with
    loads := ((s.at t).stopHoldOf i).loads, link := (s.link.vacate i).chooseWithout i } .ok []

@[simp] theorem removedReply_link_slots :
    (s.removedReply t i).link.slots = s.link.slots.set i .vacated :=
  (s.link.vacate i).chooseWithout_slots i

@[simp] theorem removedReply_link_poll : (s.removedReply t i).link.poll = s.link.discardOf i :=
  (s.link.vacate i).chooseWithout_poll i

theorem slot_removedReply_self : (s.removedReply t i).slot i = .vacated := by
  rw [slot, removedReply_link_slots, Table.get_set_self]

theorem slot_removedReply_ne {j : SlotIx} (hj : j ≠ i) : (s.removedReply t i).slot j = s.slot j := by
  rw [slot, removedReply_link_slots, Table.get_set_ne _ hj]
  rfl

/-- The two outcomes of REMOVE_STATION: a slot that is EMPTY, a slot in use emptied. -/
theorem Executing.exec_remove_empty (h : s.Executing 0x52#8 [byte i.val]) (hi : (s.slot i).state = .empty) :
    ∃ u, exec (.removeStation t) s = .next u ∧ s.Refuses u t .state :=
  h.exec_error (fun _ => rfl) rfl rfl (body := removeStation)
    (removeStation_empty (indexAt_byte i (by decide) []) hi)

theorem Executing.exec_remove_ok (h : s.Executing 0x52#8 [byte i.val]) (hi : (s.slot i).state ≠ .empty) :
    exec (.removeStation t) s = .next (s.removedReply t i) :=
  h.exec_ok (fun _ => rfl) rfl rfl
    (removeStation_ok (s := s.at t) (indexAt_byte i (by decide) []) hi)

end State

/-! ## Both commands -/

/-- ENROLL_STATION takes the lowest EMPTY slot unless the address is held or no slot is EMPTY (R139). -/
theorem enrollStation_outcomes {s : State} {t address : Nat} {zones : ZoneSet} (hk : s.LinkOk)
    (hr : 1 ≤ address ∧ address ≤ 31) (h : s.Executing 0x51#8 [byte address, zones]) :
    let taken := ∃ i e, (s.slot i).station = some e ∧ e.address = address
    ∃ u, exec (.enrollStation t) s = .next u ∧ (taken → s.Refuses u t .state) ∧
      (¬ taken → (∀ i, (s.slot i).state ≠ .empty) → s.Refuses u t .noSpace) ∧
      ∀ i, ¬ taken → (s.slot i).state = .empty → (∀ j, j < i → (s.slot j).state ≠ .empty) →
        u = s.enrolledReply t i address zones := by
  intro taken
  obtain ⟨-, hslots, -⟩ := hk
  have htaken : s.link.addressTaken address = true ↔ taken := StationLink.addressTaken_iff hslots
  by_cases ht : taken
  · obtain ⟨u, hu, hrefuses⟩ := h.exec_enroll_taken hr (htaken.2 ht)
    exact ⟨u, hu, fun _ => hrefuses, fun hnot => absurd ht hnot, fun _ hnot => absurd ht hnot⟩
  · have hnot : s.link.addressTaken address = false := Bool.eq_false_iff.2 (mt htaken.1 ht)
    cases hi : s.link.freeSlot with
    | none =>
      obtain ⟨u, hu, hrefuses⟩ := h.exec_enroll_full hr hnot hi
      exact ⟨u, hu, fun hyes => absurd hyes ht, fun _ _ => hrefuses,
        fun i _ hempty => absurd hempty (StationLink.freeSlot_eq_none.1 hi i)⟩
    | some i =>
      refine ⟨_, h.exec_enroll_ok hr hnot hi, fun hyes => absurd hyes ht,
        fun _ hfull => absurd (StationLink.freeSlot_eq_some.1 hi).1 (hfull i), fun j _ hempty hfirst => ?_⟩
      have hj : s.link.freeSlot = some j := StationLink.freeSlot_eq_some.2 ⟨hempty, hfirst⟩
      obtain rfl := Option.some.inj (hi.symm.trans hj)
      rfl

/-- Settles O56. -/
theorem enrollAndRemoveStation : Obligations.EnrollAndRemoveStation := by
  refine fun s t hk => ⟨fun address zones hmin hmax h => ?_, fun i h => ?_⟩
  · obtain ⟨u, hu, htaken, hfull, hok⟩ := enrollStation_outcomes (t := t) hk ⟨hmin, hmax⟩ h
    refine ⟨u, hu, htaken, hfull, fun i hnot hempty hfirst => ?_⟩
    obtain rfl := hok i hnot hempty hfirst
    have hchoice := s.link.chooses_enroll i address zones
    refine ⟨State.slot_enrolledReply_self address zones,
      fun j hj => State.slot_enrolledReply_ne hj address zones,
      State.answers_respond_of_port rfl .ok _, rfl, ?_⟩
    have hslots : (s.enrolledReply t i address zones).link.slots =
        s.link.slots.set i (.enrolled address zones) := s.link.enroll_slots i address zones
    rw [hslots]
    exact hchoice
  · by_cases hi : (s.slot i).state = .empty
    · obtain ⟨u, hu, hrefuses⟩ := h.exec_remove_empty (t := t) hi
      exact ⟨u, hu, fun _ => hrefuses, fun huse => absurd hi huse⟩
    · refine ⟨_, h.exec_remove_ok (t := t) hi, fun hempty => absurd hempty hi, fun _ => ?_⟩
      refine ⟨State.slot_removedReply_self, fun j hj => State.slot_removedReply_ne hj,
        State.answers_respond_of_port rfl .ok [], fun hhold n => ?_, fun hnone => ?_, fun q hq hqi => ?_,
        fun hother => ?_, rfl, ?_⟩
      · exact (s.at t).holdStopped_stopHoldOf_some (i := i) (Option.isSome_iff_ne_none.2 hhold) n
      · have hsame : (s.at t).stopHoldOf i = s.at t := State.stopHoldOf_none hnone
        change ((s.at t).stopHoldOf i).loads = s.loads
        rw [hsame]
        rfl
      · exact ⟨_, State.removedReply_link_poll.trans (StationLink.discardOf_of_slot hq hqi)⟩
      · exact State.removedReply_link_poll.trans (StationLink.discardOf_of_other hother)
      · rw [State.removedReply_link_slots, State.removedReply_link_poll]
        exact (s.link.vacate i).chooses_chooseWithout i

end Sys2Proof.Machine
end

section
/-!
SUPPORT. The Control Port and the Command Unit: intact frames, transactions by the state of the unit, frames
that fail a check, and IDENTIFY.
-/

namespace Sys2Proof.Machine

/-! ## Intact frames (R164, R185) -/

/-- A payload of at most 128 bytes has its length in one byte. -/
theorem length_byte {p : List Byte} (hp : p.length ≤ Config.maxPayload) :
    (byte p.length).toNat = p.length :=
  byte_toNat (Nat.lt_of_le_of_lt hp (by decide))

/-- The four conditions of R164 on the bytes sync, code, length and what follows them. -/
theorem parseFrame_cons_eq_some {sync code len c : Byte} {rest p : List Byte} :
    parseFrame (sync :: code :: len :: rest) = some ⟨c, p⟩ ↔
      (sync = Config.syncCommand ∧ len.toNat ≤ Config.maxPayload ∧ len.toNat < rest.length ∧
        crc8 (sync :: code :: len :: rest.take len.toNat) = rest.getD len.toNat 0) ∧
      code = c ∧ rest.take len.toNat = p := by
  simp only [parseFrame, Option.ite_none_right_eq_some, Option.some.injEq, Frame.mk.injEq]

/-- A list is its first `n` bytes, the byte after them and the rest. -/
theorem eq_take_append_getD_cons {l : List Byte} {n : Nat} (hn : n < l.length) :
    l = l.take n ++ l.getD n 0 :: l.drop (n + 1) := by
  rw [List.getD_eq_getElem _ _ hn, List.getElem_cons_drop, List.take_append_drop]

/-- A frame image, whatever follows it, is intact. -/
theorem parseFrame_commandFrame {p : List Byte} (hp : p.length ≤ Config.maxPayload) (code : Byte)
    (tail : List Byte) : parseFrame (commandFrame code p ++ tail) = some ⟨code, p⟩ := by
  have himage : commandFrame code p ++ tail = Config.syncCommand :: code :: byte p.length ::
      (p ++ crc8 (Config.syncCommand :: code :: byte p.length :: p) :: tail) := by
    simp [commandFrame]
  rw [himage, parseFrame_cons_eq_some, length_byte hp, List.take_left]
  refine ⟨⟨rfl, hp, by simp, ?_⟩, rfl, rfl⟩
  simp

/-- An intact frame is the image of its code and payload, and has at most 128 bytes of payload. -/
theorem eq_commandFrame_of_parseFrame {f p : List Byte} {code : Byte}
    (h : parseFrame f = some ⟨code, p⟩) :
    p.length ≤ Config.maxPayload ∧ ∃ tail, f = commandFrame code p ++ tail := by
  match f with
  | [] | [_] | [_, _] => simp [parseFrame] at h
  | sync :: c :: len :: rest =>
    obtain ⟨⟨rfl, hmax, hlt, hcrc⟩, rfl, rfl⟩ := parseFrame_cons_eq_some.1 h
    have hlen : (rest.take len.toNat).length = len.toNat := List.length_take_of_le hlt.le
    have hbyte : byte len.toNat = len := by simp [byte]
    refine ⟨hlen.trans_le hmax, rest.drop (len.toNat + 1), ?_⟩
    have hrest := eq_take_append_getD_cons hlt
    rw [← hcrc] at hrest
    simp only [commandFrame, hlen, hbyte, List.cons_append, List.append_assoc, List.nil_append]
    exact congrArg (_ :: _ :: _ :: ·) hrest

/-- The check value of the CRC-8, over the ASCII bytes of 123456789 (R184). -/
theorem crc8_check_value :
    crc8 [0x31#8, 0x32#8, 0x33#8, 0x34#8, 0x35#8, 0x36#8, 0x37#8, 0x38#8, 0x39#8] = 0xF4#8 := by
  decide +kernel

/-- Settles O12. -/
theorem intactFrameIsFrameImage : Obligations.IntactFrameIsFrameImage := by
  refine ⟨crc8_check_value, fun f code p => ⟨eq_commandFrame_of_parseFrame, ?_⟩⟩
  rintro ⟨hp, tail, rfl⟩
  exact parseFrame_commandFrame hp code tail

/-! ## Transactions (R163 to R165, R168, R169) -/

namespace CommandUnit

variable {u : CommandUnit} {f : List Byte}

/-- IDLE: the frame is accepted (R165). -/
theorem takeFrame_idle (h : u.unit = .idle) :
    u.takeFrame f = { u with unit := .executing (f.take Config.maxFrame) } := by
  simp [takeFrame, h]

/-- RESPONSE_READY: the frame is accepted and the response held is lost (R165, R169). -/
theorem takeFrame_responseReady {r : Response} (h : u.unit = .responseReady r) :
    u.takeFrame f = { u with unit := .executing (f.take Config.maxFrame), lostResponse := true } := by
  simp [takeFrame, h]

/-- EXECUTING: the frame is discarded (R165, R169). -/
theorem takeFrame_executing {g : List Byte} (h : u.unit = .executing g) :
    u.takeFrame f = { u with overrun := true } := by
  simp [takeFrame, h]

/-- A read of the response held (R168). -/
theorem read_responseReady {r : Response} (h : u.unit = .responseReady r) (n : Nat) :
    u.read n = { u with
      unit := if n = 0 then .responseReady r else .idle
      sdo := shiftOut r.image n } := by
  simp [read, h]

/-- A read while no response is held gives NOT_READY (R168). -/
theorem read_notReady (h : ∀ r, u.unit ≠ .responseReady r) (n : Nat) :
    u.read n = { u with sdo := shiftOut [Status.notReady.code] n } := by
  unfold read
  cases hu : u.unit with
  | idle => rfl
  | executing => rfl
  | responseReady r => exact absurd hu (h r)

end CommandUnit

namespace State

variable {s : State} {csFell : Nat}

/-- A transaction whose CS fell after the last reset acts on the Command Unit and on nothing else (R174). -/
theorem takes_transaction (hrst : s.rstLow = false) (hopen : s.port.openSince ≤ csFell) (t : Nat)
    (act : CommandUnit → CommandUnit) :
    s.takes t (fun v => if v.portTakes csFell then { v with port := act v.port } else v) =
      .next { s with now := max s.now t, port := act s.port } := by
  have htakes : (s.at t).portTakes csFell = true := decide_eq_true hopen
  rw [takes_high hrst, if_pos htakes]
  rfl

/-- A command write with bytes after its kind byte gives a frame (R163, R164). -/
theorem exec_commandWrite (hrst : s.rstLow = false) (hopen : s.port.openSince ≤ csFell) {t : Nat}
    {f : List Byte} (hf : f ≠ []) {u : CommandUnit}
    (hu : CommandUnit.takeFrame { s.port with sdo := sdoHigh f.length } f = u) :
    exec (.commandWrite t csFell f) s = .next { s with now := max s.now t, port := u } := by
  subst hu
  have h := takes_transaction hrst hopen t fun u =>
    if f = [] then { u with sdo := sdoHigh f.length }
    else CommandUnit.takeFrame { u with sdo := sdoHigh f.length } f
  rw [if_neg hf] at h
  exact h

theorem exec_responseRead (hrst : s.rstLow = false) (hopen : s.port.openSince ≤ csFell) (t n : Nat) :
    exec (.responseRead t csFell n) s =
      .next { s with now := max s.now t, port := s.port.read n } :=
  takes_transaction hrst hopen t (·.read n)

theorem exec_transactionIgnored (hrst : s.rstLow = false) (hopen : s.port.openSince ≤ csFell) (t : Nat)
    (bytes : List Byte) : exec (.transactionIgnored t csFell bytes) s = .next { s with
      now := max s.now t
      port := { s.port with sdo := sdoHigh (bytes.length - 1) } } :=
  takes_transaction hrst hopen t fun u => { u with sdo := sdoHigh (bytes.length - 1) }

end State

/-- The image of a response, with its flags as a sum (Table 11-1). -/
theorem Response.image_eq (r : Response) :
    let flags := byte (r.overrun.toNat + 2 * r.lostResponse.toNat + 4 * r.attention.toNat)
    let body := [r.status.code, flags, byte r.payload.length] ++ r.payload
    r.image = body ++ [crc8 body] := by
  simp only [Response.image, flagBits_three]

/-- One byte and then high. -/
theorem shiftOut_singleton (b : Byte) (n : Nat) :
    shiftOut [b] (n + 1) = b :: List.replicate n 0xFF#8 := by
  simp [shiftOut]

/-- Settles O40. -/
theorem transactionsActByUnitState : Obligations.TransactionsActByUnitState := by
  refine ⟨fun s t csFell f hrst hopen hf => ?_, fun s t csFell hrst hopen => ?_⟩
  · exact ⟨fun hunit => State.exec_commandWrite hrst hopen hf (CommandUnit.takeFrame_idle hunit),
      fun _ hunit => State.exec_commandWrite hrst hopen hf (CommandUnit.takeFrame_responseReady hunit),
      fun _ hunit => State.exec_commandWrite hrst hopen hf (CommandUnit.takeFrame_executing hunit)⟩
  · refine ⟨fun r n hunit => ?_, fun n hunit => ?_, State.exec_transactionIgnored hrst hopen t⟩
    · rw [State.exec_responseRead hrst hopen, CommandUnit.read_responseReady hunit, shiftOut, r.image_eq]
    · rw [State.exec_responseRead hrst hopen, CommandUnit.read_notReady hunit, shiftOut_singleton]
      rfl

/-! ## Frames that fail a check (R164, R167, R186) -/

/-- Every command of the table has its execution, and every execution its command. -/
theorem executions_codes (t : Nat) : (executions t).map Prod.fst = commandTable.map Prod.fst := rfl

/-- A code that no execution carries names no command. -/
theorem lengthRule_eq_none {t : Nat} {code : Byte} (h : ∀ c, (code, c) ∉ executions t) :
    lengthRule code = none := by
  have hcode : code ∉ commandTable.map Prod.fst := by
    rw [← executions_codes t]
    intro hmem
    obtain ⟨⟨_, c⟩, hc, rfl⟩ := List.mem_map.1 hmem
    exact h c hc
  rw [lengthRule, List.lookup_eq_none_iff]
  intro x hx
  have hne : code ≠ x.1 := fun he => hcode (he ▸ List.mem_map_of_mem hx)
  simpa using hne

namespace State

variable {s : State} {t : Nat} {code : Byte} {p : List Byte}

/-- A frame held that is not intact (R164). -/
theorem exec_frameNotIntact {f : List Byte} (hrst : s.rstLow = false) (hunit : s.port.unit = .executing f)
    (hf : parseFrame f = none) :
    exec (.frameNotIntact t) s = .next ((s.at t).respond .badFrame []) := by
  change execFrameNotIntact t s = _
  rw [execFrameNotIntact, takes_high hrst]
  simp [hunit, hf]

/-- An intact frame held whose code names no command (R167). -/
theorem Executing.exec_unknownCommand (h : s.Executing code p) (hcode : lengthRule code = none) :
    exec (.unknownCommand t) s = .next ((s.at t).respond .unknownCommand []) := by
  obtain ⟨hrst, f, hunit, hparse⟩ := h
  have hframe : (s.at t).intactFrame = some ⟨code, p⟩ := by simp [intactFrame, hunit, hparse]
  change execUnknownCommand t s = _
  rw [execUnknownCommand, takes_high hrst]
  simp [hframe, hcode]

/-- A payload of a length its code does not require (R167, R186). -/
theorem Executing.refuses_badLength (h : s.Executing code p) {c : Instr} (hc : (code, c) ∈ executions t)
    {r : LengthRule} (hr : lengthRule code = some r) (hp : r.holds p = false) :
    ∃ u, exec c s = .next u ∧ s.Refuses u t .badFrame := by
  obtain ⟨body, -, hruns, -⟩ := runs_of_mem_executions hc
  exact ⟨_, (hruns s).trans (h.badLength t hr hp body), s.refuses_respond t .badFrame⟩

end State

/-- Settles O41. -/
theorem badFramesAndCodesAreRefused : Obligations.BadFramesAndCodesAreRefused := by
  intro s t
  refine ⟨fun f hrst hunit hf => ?_, fun code p h hcode => ?_, fun code c n p hc hr h hp => ?_,
    fun p h hp => ?_⟩
  · exact ⟨_, State.exec_frameNotIntact hrst hunit hf, s.refuses_respond t .badFrame⟩
  · exact ⟨_, h.exec_unknownCommand (lengthRule_eq_none hcode), s.refuses_respond t .unknownCommand⟩
  · exact h.refuses_badLength hc hr (by simpa [LengthRule.holds] using hp)
  · exact h.refuses_badLength (by simp [executions]) (r := .scene) rfl
      (by simpa [LengthRule.holds] using hp)

/-! ## IDENTIFY (R172) -/

/-- Settles O52. -/
theorem identifyReportsPart : Obligations.IdentifyReportsPart := by
  intro s t h
  exact h.exec_report (fun _ => rfl) rfl rfl (body := identify) rfl rfl

end Sys2Proof.Machine
end

section
/-!
SUPPORT. SET_EVENT_MASK, and ATTN by the classes it shows.
-/

namespace Sys2Proof.Machine

/-! ## The mask and ATTN (R178, R181) -/

/-- ATTN is raised exactly where some class shows (R178). -/
theorem Attention.attn_iff (a : Attention) :
    a.attn = true ↔ ∃ c, a.isPending c = true ∧ a.mask.getLsbD c.bit = false := by
  rw [attn, List.any_eq_true]
  refine exists_congr fun c => ?_
  rw [a.shows_iff, a.isPending_iff]
  exact and_iff_right c.mem_all

/-- A class set sent in a byte keeps its value (R184). -/
theorem byteAt_setWidth (mask : BitVec 6) : byteAt [mask.setWidth 8] 0 = mask.toNat := by
  rw [byteAt_zero, BitVec.toNat_setWidth]
  exact Nat.mod_eq_of_lt (mask.isLt.trans (by decide))

/-- A class set replaces the whole mask (R181). -/
theorem setEventMask_ok {p : List Byte} {mask : BitVec 6} (hmask : byteAt p 0 = mask.toNat) (s : State) :
    setEventMask p s = .ok ({ s with attention := { s.attention with mask := mask } }, []) := by
  have hlt : mask.toNat < 64 := mask.isLt
  simp [setEventMask, hmask, hlt]

/-- A byte with bit 6 or 7 set is no class set (R181). -/
theorem setEventMask_refused {b : Byte} (hb : 64 ≤ b.toNat) (s : State) :
    setEventMask [b] s = .error .badArgument := by
  simp [setEventMask, Nat.not_lt.2 hb]

/-- Settles O57. -/
theorem setEventMaskReplacesMask : Obligations.SetEventMaskReplacesMask := by
  intro s t
  refine ⟨fun mask h => ?_, fun b hb h => ?_⟩
  · exact ⟨_, h.exec_ok (fun _ => rfl) rfl rfl (setEventMask_ok (byteAt_setWidth mask) (s.at t)),
      State.answers_respond_of_port rfl .ok [], rfl, Attention.attn_iff _⟩
  · exact h.exec_error (fun _ => rfl) rfl rfl (setEventMask_refused hb (s.at t))

end Sys2Proof.Machine
end

section
/-!
SUPPORT. Every command answers a next state: none touches the queue, and but for power-on reset none takes
the timebase back.
-/

namespace Sys2Proof.Machine

namespace State

variable {s : State}

/-! ## The operations that move neither timebase nor queue -/

/-- The timebase with the queue: what an event leaves as the instant of its command has set it. -/
def clock (s : State) : Nat × List Instr := (s.now, s.pending)

section operations

variable (s)

theorem stopHoldOf_clock (i : SlotIx) : (s.stopHoldOf i).clock = s.clock := by
  unfold stopHoldOf
  split <;> rfl

theorem judgeCheck_clock (n : LoadIx) (conducting : Bool) :
    (s.judgeCheck n conducting).clock = s.clock := by
  unfold judgeCheck
  dsimp only
  split
  · split
    · rfl
    · split <;> rfl
  · rfl

theorem continueTrain_clock (x : SlotPulse) : (s.continueTrain x).clock = s.clock := by
  unfold continueTrain handOver
  dsimp only
  split <;> split <;> rfl

theorem applyMembers_clock (p : LoadIx → Bool) : (s.applyMembers p).clock = s.clock :=
  Prod.ext (s.applyMembers_now p) (s.applyMembers_pending p)

theorem announce_clock (b : Boundary) : (s.announce b).clock = s.clock :=
  Prod.ext (s.announce_now b) (s.announce_pending b)

/-- A line loss ends in the applies of the members that wait on the line (R42). -/
theorem loseLine_clock (l : Line) : (s.loseLine l).clock = s.clock := applyMembers_clock _ _

theorem lineEvent_clock (l : Line) : ∀ e : Option LineEvent, (s.lineEvent l e).clock = s.clock
  | none => rfl
  | some .locked => rfl
  | some .holdoverEntered => rfl
  | some .lost => s.loseLine_clock l

theorem moveTracker_clock (l : Line) (m : Move) : (s.moveTracker l m).clock = s.clock := by
  unfold moveTracker
  dsimp only
  split
  · exact lineEvent_clock _ l m.event
  · exact (announce_clock _ _).trans (lineEvent_clock _ l m.event)

theorem switchLink_clock (before after : Bool) : (s.switchLink before after).clock = s.clock := by
  unfold switchLink
  dsimp only
  split
  · rfl
  · split <;> rfl

theorem failPoll_clock (i : SlotIx) : (s.failPoll i).clock = s.clock := by
  unfold failPoll
  dsimp only
  split
  · rfl
  · rfl
  · split
    · rfl
    · exact s.stopHoldOf_clock i

theorem answer_clock (i : SlotIx) : (s.answer i).clock = s.clock := by
  unfold answer
  split <;> rfl

/-! ### Requests of stations -/

theorem stationRecall_clock (i : SlotIx) (n : SceneIx) : (s.stationRecall i n).clock = s.clock := by
  unfold stationRecall
  split <;> rfl

theorem startHold_clock (i : SlotIx) (z : Zone) (d : Direction) :
    (s.startHold i z d).clock = s.clock := by
  unfold startHold
  dsimp only
  split
  · rfl
  · exact s.stopHoldOf_clock i

theorem endHold_clock (i : SlotIx) (z : Zone) : (s.endHold i z).clock = s.clock := by
  unfold endHold
  split
  · exact s.stopHoldOf_clock i
  · rfl

end operations

theorem judge_clock (i : SlotIx) (seq : Bool) (refusal : Option Reason) {carryOut : State → State}
    (h : ∀ v : State, (carryOut v).clock = v.clock) :
    (s.judge i seq refusal carryOut).clock = s.clock := by
  unfold judge
  split
  · rfl
  · split
    · rfl
    · exact h _

/-- A Reply row whose requests move neither timebase nor queue. -/
def HandlesClock (handle : Request → Option (SlotIx → State → State)) : Prop :=
  ∀ r f, handle r = some f → ∀ i v, (f i v).clock = v.clock

theorem takeReply_clock (frame : List Byte) {handle : Request → Option (SlotIx → State → State)}
    (h : HandlesClock handle) : (s.takeReply frame handle).clock = s.clock := by
  unfold takeReply
  split
  · rfl
  · split
    · rfl
    · rename_i q _ _ f hf
      obtain ⟨r, -, hr⟩ := Option.bind_eq_some_iff.1 hf
      show (if _ then _ else _ : State).clock = _
      split
      · rfl
      · exact (h r f hr _ _).trans (answer_clock _ _)

theorem handlesClock_idle : HandlesClock Request.takeIdle
  | .idle, _, rfl, _, _ => rfl

theorem handlesClock_recall : HandlesClock Request.takeRecall
  | .recall n seq, _, rfl, i, _ => judge_clock i seq _ fun v => v.stationRecall_clock i n

theorem handlesClock_raise : HandlesClock Request.takeRaise
  | .raiseStart z seq, _, rfl, i, _ => judge_clock i seq _ fun v => v.startHold_clock i z .raise

theorem handlesClock_lower : HandlesClock Request.takeLower
  | .lowerStart z seq, _, rfl, i, _ => judge_clock i seq _ fun v => v.startHold_clock i z .lower

theorem handlesClock_holdStop : HandlesClock Request.takeHoldStop
  | .holdStop z seq, _, rfl, i, _ => judge_clock i seq _ fun v => v.endHold_clock i z

theorem handlesClock_off : HandlesClock Request.takeOff
  | .off _ seq, _, rfl, i, _ => judge_clock i seq _ fun _ => rfl

/-! ## The bodies of the commands -/

/-- A command body moves neither timebase nor queue where it carries its command out. -/
def BodyClock (s : State) (r : CommandResult) : Prop :=
  ∀ v payload, r = .ok (v, payload) → v.clock = s.clock

theorem BodyClock.bind {α : Type} {x : Except Status α} {f : α → CommandResult}
    (h : ∀ a, s.BodyClock (f a)) : s.BodyClock (x >>= f) := fun v payload hr => by
  obtain ⟨a, -, ha⟩ := bind_eq_ok.1 hr
  exact h a v payload ha

theorem BodyClock.ok {r : State × List Byte} (h : r.1.clock = s.clock) : s.BodyClock (.ok r) := by
  rintro v payload ⟨⟩
  exact h

theorem BodyClock.error (status : Status) : s.BodyClock (.error status) := fun _ _ h => nomatch h

/-- The three trackers are configured one after the other (R30). -/
theorem bodyClock_configureLines (p : List Byte) : s.BodyClock (configureLines p s) :=
  .bind fun _ => .ok <|
    ((moveTracker_clock _ .c _).trans (moveTracker_clock _ .b _)).trans (moveTracker_clock _ .a _)

theorem bodyClock_disableLoad (p : List Byte) : s.BodyClock (disableLoad p s) :=
  .bind fun _ => .bind fun _ => .ok <| by
    dsimp only
    split
    · exact applyMembers_clock _ _
    · rfl

theorem bodyClock_commit (p : List Byte) : s.BodyClock (Machine.commit p s) :=
  .bind fun _ => .ok (applyMembers_clock _ _)

theorem bodyClock_configureLink (p : List Byte) : s.BodyClock (configureLink p s) :=
  .bind fun _ => .ok (switchLink_clock _ _ _)

theorem bodyClock_enrollStation (p : List Byte) : s.BodyClock (enrollStation p s) := by
  refine .bind fun _ => .bind fun _ => ?_
  split
  · exact .error .noSpace
  · exact .ok rfl

theorem bodyClock_removeStation (p : List Byte) : s.BodyClock (removeStation p s) :=
  .bind fun i => .bind fun _ => .ok (s.stopHoldOf_clock i)

/-- An execution moves neither timebase nor queue where the body of its command does not. -/
theorem execute_clock (code : Byte) {body : List Byte → State → CommandResult}
    (hb : ∀ p, s.BodyClock (body p s)) : (s.execute code body).clock = s.clock := by
  rcases s.execute_cases code body with hv | ⟨status, hv⟩ | ⟨p, w, payload, hw, hv⟩ <;> rw [hv]
  · rfl
  · exact hb p w payload hw

/-! ## Commands taken -/

/-- A command on `s` answers a next state, with the queue of `s` and its timebase not gone back. -/
def AnswersNext (s : State) (r : Result) : Prop :=
  ∃ u, r = .next u ∧ u.pending = s.pending ∧ s.now ≤ u.now

theorem AnswersNext.next {u : State} (hq : u.pending = s.pending) (hn : s.now ≤ u.now) :
    s.AnswersNext (.next u) := ⟨u, rfl, hq, hn⟩

/-- Taking a command at `t` moves the timebase to `t` or leaves it (log 2). -/
theorem AnswersNext.at {u : State} {t : Nat} (h : u.clock = (s.at t).clock) : s.AnswersNext (.next u) :=
  .next (congrArg Prod.snd h) ((Nat.le_max_left s.now t).trans_eq (congrArg Prod.fst h).symm)

/-- With RST low the timebase alone moves; otherwise the event acts at the instant of its command. -/
theorem answersNext_takes {t : Nat} {f : State → State} (hf : ∀ v : State, (f v).clock = v.clock) :
    s.AnswersNext (s.takes t f) := by
  unfold takes
  split
  · exact .at rfl
  · exact .at (hf (s.at t))

theorem answersNext_runs {t : Nat} {c : Instr} {code : Byte} (body : List Byte → State → CommandResult)
    (hc : Runs t c code body) (hb : ∀ (p : List Byte) (v : State), v.BodyClock (body p v)) :
    s.AnswersNext (exec c s) :=
  hc s ▸ answersNext_takes fun v => v.execute_clock code fun p => hb p v

theorem answersNext_reply {t : Nat} {frame : List Byte}
    {handle : Request → Option (SlotIx → State → State)} (h : HandlesClock handle) :
    s.AnswersNext (s.takes t fun v => v.takeReply frame handle) :=
  answersNext_takes fun _ => takeReply_clock frame h

/-! ## Events, one by one -/

theorem answersNext_execPinReset (t : Nat) : s.AnswersNext (execPinReset t s) := by
  refine answersNext_takes fun _ => ?_
  rfl

theorem answersNext_execPinResetEnd (t : Nat) : s.AnswersNext (execPinResetEnd t s) := by
  unfold execPinResetEnd
  split <;> exact .at (t := t) rfl

theorem answersNext_execAlloffAssertion (t : Nat) : s.AnswersNext (execAlloffAssertion t s) := by
  unfold execAlloffAssertion
  dsimp only
  split <;> exact .at (t := t) rfl

theorem answersNext_execAlloffRelease (t : Nat) : s.AnswersNext (execAlloffRelease t s) := by
  unfold execAlloffRelease
  dsimp only
  split <;> exact .at (t := t) rfl

/-- The level of the input, set first, is no part of the timebase or the queue. -/
theorem answersNext_execZeroCrossEdge (t : Nat) (l : Line) (level : Bool) :
    s.AnswersNext (execZeroCrossEdge t l level s) :=
  answersNext_takes (s := { s with zc := s.zc.set l level }) fun v => v.moveTracker_clock l _

theorem answersNext_execAcquisitionTimeout (t : Nat) (l : Line) :
    s.AnswersNext (execAcquisitionTimeout t l s) := by
  refine answersNext_takes fun _ => ?_
  rfl

theorem answersNext_execPulseDue (t : Nat) : s.AnswersNext (execPulseDue t s) := by
  refine answersNext_takes fun _ => ?_
  rfl

theorem answersNext_execPulseEnd (t : Nat) (n : LoadIx) : s.AnswersNext (execPulseEnd t n s) := by
  refine answersNext_takes fun v => ?_
  split
  · rfl
  · exact continueTrain_clock _ _

theorem answersNext_execLatestStartPassed (t : Nat) (n : LoadIx) :
    s.AnswersNext (execLatestStartPassed t n s) := by
  refine answersNext_takes fun v => ?_
  split <;> rfl

theorem answersNext_execHeldDriveStart (t : Nat) (n : LoadIx) :
    s.AnswersNext (execHeldDriveStart t n s) := by
  refine answersNext_takes fun v => ?_
  split <;> rfl

theorem answersNext_execHeldDriveEnd (t : Nat) (n : LoadIx) (level : Bool) :
    s.AnswersNext (execHeldDriveEnd t n level s) := by
  refine answersNext_takes fun v => ?_
  split
  · rfl
  · exact judgeCheck_clock _ n level

theorem answersNext_execPostFiringCheck (t : Nat) (n : LoadIx) (level : Bool) :
    s.AnswersNext (execPostFiringCheck t n level s) := by
  refine answersNext_takes fun v => ?_
  split
  · rfl
  · exact judgeCheck_clock _ n level

theorem answersNext_execQuietSample (t : Nat) (l : Line) (levels : LoadSet) :
    s.AnswersNext (execQuietSample t l levels s) := by
  refine answersNext_takes fun v => ?_
  split
  · rfl
  · split <;> rfl

theorem answersNext_execHoldExpiry (t : Nat) (i : SlotIx) : s.AnswersNext (execHoldExpiry t i s) := by
  refine answersNext_takes fun v => ?_
  split
  · rfl
  · split
    · exact v.stopHoldOf_clock i
    · rfl

theorem answersNext_execPoll (t : Nat) : s.AnswersNext (execPoll t s) := by
  refine answersNext_takes fun v => ?_
  split
  · split
    · rfl
    · split <;> rfl
  · rfl

theorem answersNext_execReplyWindowClose (t : Nat) : s.AnswersNext (execReplyWindowClose t s) := by
  refine answersNext_takes fun v => ?_
  split
  · rfl
  · rename_i q _
    split
    · show (if _ then _ else _ : State).clock = _
      split
      · rfl
      · exact failPoll_clock _ q.slot
    · rfl

theorem answersNext_execReplyNotValid (t : Nat) (frame : List Byte) :
    s.AnswersNext (execReplyNotValid t frame s) := by
  refine answersNext_takes fun v => ?_
  split
  · rfl
  · split
    · split <;> rfl
    · rfl

/-- Transactions reach the Command Unit alone. -/
theorem answersNext_transaction (t : Nat) (taken : State → Bool) (f : State → CommandUnit) :
    s.AnswersNext (s.takes t fun v => if taken v then { v with port := f v } else v) := by
  refine answersNext_takes fun v => ?_
  split <;> rfl

theorem answersNext_execUnknownCommand (t : Nat) : s.AnswersNext (execUnknownCommand t s) := by
  refine answersNext_takes fun v => ?_
  split
  · rfl
  · split <;> rfl

theorem answersNext_execFrameNotIntact (t : Nat) : s.AnswersNext (execFrameNotIntact t s) := by
  refine answersNext_takes fun v => ?_
  split
  · split <;> rfl
  · rfl
  · rfl

/-! ## Every command -/

theorem answersNext_exec {c : Instr} (hc : c ≠ .powerOnReset) : s.AnswersNext (exec c s) := by
  cases c with
  | powerOnReset => exact absurd rfl hc
  | pinReset t => exact answersNext_execPinReset t
  | pinResetEnd t => exact answersNext_execPinResetEnd t
  | alloffAssertion t => exact answersNext_execAlloffAssertion t
  | alloffRelease t => exact answersNext_execAlloffRelease t
  | zeroCrossEdge t line level => exact answersNext_execZeroCrossEdge t line level
  | acquisitionTimeout t line => exact answersNext_execAcquisitionTimeout t line
  | acceptanceWindowClose t line => exact answersNext_takes fun v => v.moveTracker_clock line _
  | pulseDue t => exact answersNext_execPulseDue t
  | pulseEnd t load => exact answersNext_execPulseEnd t load
  | latestStartPassed t load => exact answersNext_execLatestStartPassed t load
  | heldDriveStart t load => exact answersNext_execHeldDriveStart t load
  | heldDriveEnd t load level => exact answersNext_execHeldDriveEnd t load level
  | postFiringCheck t load level => exact answersNext_execPostFiringCheck t load level
  | quietSample t line levels => exact answersNext_execQuietSample t line levels
  | holdExpiry t slot => exact answersNext_execHoldExpiry t slot
  | poll t => exact answersNext_execPoll t
  | replyWindowClose t => exact answersNext_execReplyWindowClose t
  | idle t frame => exact answersNext_reply handlesClock_idle
  | raiseStart t frame => exact answersNext_reply handlesClock_raise
  | lowerStart t frame => exact answersNext_reply handlesClock_lower
  | holdStop t frame => exact answersNext_reply handlesClock_holdStop
  | off t frame => exact answersNext_reply handlesClock_off
  | replyNotValid t frame => exact answersNext_execReplyNotValid t frame
  | commandWrite t csFell frame =>
    exact answersNext_transaction t (·.portTakes csFell) fun v =>
      let w : CommandUnit := { v.port with sdo := sdoHigh frame.length }
      if frame = [] then w else w.takeFrame frame
  | responseRead t csFell clocked =>
    exact answersNext_transaction t (·.portTakes csFell) (·.port.read clocked)
  | transactionIgnored t csFell bytes =>
    exact answersNext_transaction t (·.portTakes csFell) fun v =>
      { v.port with sdo := sdoHigh (bytes.length - 1) }
  | unknownCommand t => exact answersNext_execUnknownCommand t
  | frameNotIntact t => exact answersNext_execFrameNotIntact t
  | configureLines t =>
    exact answersNext_runs configureLines (fun _ => rfl) fun p _ => bodyClock_configureLines p
  | disableLoad t => exact answersNext_runs disableLoad (fun _ => rfl) fun p _ => bodyClock_disableLoad p
  | commit t => exact answersNext_runs Machine.commit (fun _ => rfl) fun p _ => bodyClock_commit p
  | configureLink t =>
    exact answersNext_runs configureLink (fun _ => rfl) fun p _ => bodyClock_configureLink p
  | enrollStation t =>
    exact answersNext_runs enrollStation (fun _ => rfl) fun p _ => bodyClock_enrollStation p
  | removeStation t =>
    exact answersNext_runs removeStation (fun _ => rfl) fun p _ => bodyClock_removeStation p
  | readLine t => exact answersNext_runs readLine (fun _ => rfl) fun _ _ => .bind fun _ => .ok rfl
  | defineLoad t =>
    exact answersNext_runs defineLoad (fun _ => rfl) fun _ _ =>
      .bind fun _ => .bind fun _ => .bind fun _ => .ok rfl
  | enableLoad t =>
    exact answersNext_runs enableLoad (fun _ => rfl) fun _ _ =>
      .bind fun _ => .bind fun _ => .bind fun _ => .ok rfl
  | releaseLoad t =>
    exact answersNext_runs releaseLoad (fun _ => rfl) fun _ _ =>
      .bind fun _ => .bind fun _ => .bind fun _ => .ok rfl
  | setLevel t =>
    exact answersNext_runs setLevel (fun _ => rfl) fun _ _ =>
      .bind fun _ => .bind fun _ => .bind fun _ => .bind fun _ => .ok rfl
  | setLock t =>
    exact answersNext_runs setLock (fun _ => rfl) fun _ _ =>
      .bind fun _ => .bind fun _ => .bind fun _ => .ok rfl
  | clearFault t =>
    exact answersNext_runs clearFault (fun _ => rfl) fun _ _ => .bind fun _ => .bind fun _ => .ok rfl
  | readLoad t => exact answersNext_runs readLoad (fun _ => rfl) fun _ _ => .bind fun _ => .ok rfl
  | stageLoad t =>
    exact answersNext_runs stageLoad (fun _ => rfl) fun _ _ =>
      .bind fun _ => .bind fun _ => .bind fun _ => .bind fun _ => .ok rfl
  | discardStaged t =>
    exact answersNext_runs discardStaged (fun _ => rfl) fun _ _ =>
      .bind fun _ => .bind fun _ => .bind fun _ => .ok rfl
  | readCommit t => exact answersNext_runs readCommit (fun _ => rfl) fun _ _ => .ok rfl
  | writeScene t =>
    exact answersNext_runs writeScene (fun _ => rfl) fun _ _ =>
      .bind fun _ => .bind fun _ => .bind fun _ => .ok rfl
  | deleteScene t =>
    exact answersNext_runs deleteScene (fun _ => rfl) fun _ _ => .bind fun _ => .bind fun _ => .ok rfl
  | readScene t => exact answersNext_runs readScene (fun _ => rfl) fun _ _ => .bind fun _ => .ok rfl
  | recallScene t =>
    exact answersNext_runs Machine.recallScene (fun _ => rfl) fun _ _ =>
      .bind fun _ => .bind fun _ => .bind fun _ => .bind fun _ => .ok rfl
  | readPool t => exact answersNext_runs readPool (fun _ => rfl) fun _ _ => .ok rfl
  | readStation t => exact answersNext_runs readStation (fun _ => rfl) fun _ _ => .bind fun _ => .ok rfl
  | readSummary t => exact answersNext_runs readSummary (fun _ => rfl) fun _ _ => .ok rfl
  | readEvents t => exact answersNext_runs readEvents (fun _ => rfl) fun _ _ => .bind fun _ => .ok rfl
  | setEventMask t => exact answersNext_runs setEventMask (fun _ => rfl) fun _ _ => .bind fun _ => .ok rfl
  | allOff t => exact answersNext_runs Machine.allOff (fun _ => rfl) fun _ _ => .ok rfl
  | identify t => exact answersNext_runs identify (fun _ => rfl) fun _ _ => .ok rfl
  | restart t => exact answersNext_runs restart (fun _ => rfl) fun _ _ => .ok rfl
  | _ =>
    -- The RECALL row: its constructor is named by a word that Mathlib reserves.
    exact answersNext_reply handlesClock_recall

/-- Power-on reset answers too, with the queue as it was; the timebase it sets to 0 (log 5). -/
theorem execPowerOnReset_next (s : State) : ∃ u, execPowerOnReset s = .next u ∧ u.pending = s.pending := by
  refine ⟨_, rfl, ?_⟩
  split <;> rfl

end State

/-- Settles O1: it is the equation of `step` on a queue with a front. -/
theorem stepTakesFrontOfQueue : Obligations.StepTakesFrontOfQueue := fun _ _ _ => rfl

/-- Settles O2: power-on reset apart, a command moves the timebase to its instant at most, and what it then
does moves neither timebase nor queue. -/
theorem everyCommandAnswersNext : Obligations.EveryCommandAnswersNext := by
  intro c s
  by_cases hc : c = .powerOnReset
  · subst hc
    obtain ⟨u, hu, hqueue⟩ := s.execPowerOnReset_next
    exact ⟨u, hu, hqueue, fun hne => absurd rfl hne⟩
  · obtain ⟨u, hu, hqueue, hnow⟩ := State.answersNext_exec hc
    exact ⟨u, hu, hqueue, fun _ => hnow⟩

end Sys2Proof.Machine
end
